-- ==== Sys2Proof/Word.lean ====
section
/-! DEFINITION. The fixed widths of the block (00_scope.md R8, R9): a byte is 8 bits, a length field 16 bits,
every counter and tick counter 32 bits. Arithmetic on them wraps (R9), which is `BitVec`'s `+`. -/

namespace Sys2Proof

/-- An 8-bit value: a byte of the received stream, a class, an id, a checksum byte, a flag set (R9: `u8`, `x8`). -/
abbrev Byte := BitVec 8

/-- A 16-bit value: a length field, an input event word, a 16-bit record field (R9: `u16`). -/
abbrev U16 := BitVec 16

/-- A 32-bit value: a counter, a tick counter, a 32-bit record field (R9: `u32`). -/
abbrev U32 := BitVec 32

end Sys2Proof
end

