-- ==== Sys2Proof/Config.lean ====
section
/-! DEFINITION. What fixes a model instance (00_scope.md R7) and the free values. An `opaque` constant has no body:
nothing can evaluate it or prove a value of it. -/

namespace Sys2Proof

namespace Config

/-- The open parameter `P_ACK_TIMEOUT` less one (R7, decision D16: any of 1 to 2^32-1). DESIGN CHOICE of the form,
entry 5. Safe: no value is fixed. -/
opaque ackTimeoutLessOne : Fin 4294967295

/-- The open parameter `P_RX_TIMEOUT` less one (R7, decision D24: any of 1 to 2^32-1). DESIGN CHOICE of the form,
entry 5. Safe: no value is fixed. -/
opaque rxTimeoutLessOne : Fin 4294967295

/-- The open parameter `P_TICK`, the real time of one TICK less one unit (R7, decision D17: any positive duration).
No rule reads it, and no definition of the model does (entry 15). Safe. -/
opaque tickPeriodLessOne : Nat

/-- `freePayByte d k` is the value the byte `k` of `f_pay` has after the `d`-th draw (10_state.md R26 and
70_reset_and_hazards.md R300: unspecified, a free draw at every reset). A FREE VALUE, entry 6. Safe. -/
opaque freePayByte : Nat → Nat → Byte

/-- The default of `P_PRT_PAYLOAD` (41_codec_encode.md R121, decision D12). -/
def defaultPrtPayload : Vector Byte 20 :=
  #v[0x00, 0x00, 0x00, 0x00, 0x84, 0x00, 0x00, 0x00, 0x00, 0x00,
     0x00, 0x00, 0x01, 0x00, 0x01, 0x00, 0x00, 0x00, 0x00, 0x00]

end Config

/-- The parameters of 00_scope.md R7 that some rule reads. `P_RETRY_LIMIT` is fixed (`retryLimit`). -/
structure Params where
  /-- `P_MAX_PAYLOAD`: the largest payload length the framer accepts, 92 to 65535. -/
  maxPayload : Nat
  /-- `P_ACK_TIMEOUT`: ticks the sequencer waits after each send, 1 to 2^32-1. -/
  ackTimeout : U32
  /-- `P_RX_TIMEOUT`: ticks without a byte after which the stream stops, 1 to 2^32-1. -/
  rxTimeout : U32
  /-- `P_IF_PORT`: index of the active transport interface, 0 to 5. -/
  ifPort : Fin 6
  /-- `P_PRT_PAYLOAD`: the payload of the set-protocol-filter command, any 20 bytes. -/
  prtPayload : Vector Byte 20
  deriving DecidableEq, Repr

/-- `P_RETRY_LIMIT`, fixed at 1 (R7; 44_sequencer.md R219). -/
def retryLimit : Nat := 1

/-- The legal values of the table of R7. The types of the fields hold the other bounds. -/
def Params.wf (p : Params) : Bool :=
  decide (92 ≤ p.maxPayload) && decide (p.maxPayload ≤ 65535) && decide (1 ≤ p.ackTimeout.toNat) &&
    decide (1 ≤ p.rxTimeout.toNat)

/-- The values for this hardware (R7, column four). The two open ones are opaque constants. -/
def Params.hardware : Params where
  maxPayload := 256
  ackTimeout := BitVec.ofNat 32 (Config.ackTimeoutLessOne.val + 1)
  rxTimeout := BitVec.ofNat 32 (Config.rxTimeoutLessOne.val + 1)
  ifPort := 0
  prtPayload := Config.defaultPrtPayload

end Sys2Proof
end

