-- ==== Sys2Proof/Syntax.lean ====
section
/-! DEFINITION. The instructions of the block: "Its 'instructions' are input events (R95) and wire messages (R90)"
(10_state.md R20). One constructor for each of the 29 rows of spec/opcode_table.json. -/

namespace Sys2Proof

/-- The two rate settings of the set-rate command (00_scope.md R12; 44_sequencer.md R213: 0 = R4X2, 1 = R2X1). -/
inductive Preset where
  | r4x2
  | r2x1
  deriving DecidableEq, Repr

/-- The six outbound commands (30_encoding.md R91). -/
inductive Command where
  | setProtocolFilter
  | setRate4x2
  | setRate2x1
  | enableFixOutput
  | pollRate
  | pollFixConfig
  deriving DecidableEq, Repr

/-- One constructor per row of the opcode table. -/
inductive Instr where
  /-- `RX_BYTE b`: one byte from the transport (R95, R180). -/
  | rxByte (b : Byte)
  /-- `RX_ERROR`: the transport read failed (R95, R189). -/
  | rxError
  /-- `TICK`: one period of the time base elapsed (R95, R218, R253). -/
  | tick
  /-- `START_SEQ p, v`: preset `p`, verify flag `v` (R95, R213). -/
  | startSeq (p : Preset) (v : Bool)
  /-- `START_STREAM` (R95, R252). -/
  | startStream
  /-- `CANCEL` (R95, R224, R255). -/
  | cancel
  /-- `RESET` (R95, R300). -/
  | reset
  /-- A word with op 0x0 and any data bits 11 to 0 (R96). -/
  | illegalOp0 (data : BitVec 12)
  /-- A word with op 0x8 to 0xF: bit 15 is set, `low` is bits 14 to 0 (R96). -/
  | illegalOpHigh (low : BitVec 15)
  /-- Op 0x1 with a reserved data bit (11 to 8) set (R96). -/
  | illegalRxByte (data : BitVec 12)
  /-- Op 0x2 with a data bit set (R96). -/
  | illegalRxError (data : BitVec 12)
  /-- Op 0x3 with a data bit set (R96). -/
  | illegalTick (data : BitVec 12)
  /-- Op 0x4 with a reserved data bit (11 to 2) set (R96). -/
  | illegalStartSeq (data : BitVec 12)
  /-- Op 0x5 with a data bit set (R96). -/
  | illegalStartStream (data : BitVec 12)
  /-- Op 0x6 with a data bit set (R96). -/
  | illegalCancel (data : BitVec 12)
  /-- Op 0x7 with a data bit set (R96). -/
  | illegalReset (data : BitVec 12)
  /-- The outbound set-protocol-filter frame (R121). -/
  | txSetProtocolFilter
  /-- The outbound set-rate frame of preset R4X2 (R122). -/
  | txSetRate4x2
  /-- The outbound set-rate frame of preset R2X1 (R123). -/
  | txSetRate2x1
  /-- The outbound enable-fix-output frame (R124). -/
  | txEnableFixOutput
  /-- The outbound rate-poll frame (R125). -/
  | txPollRate
  /-- The outbound fix-configuration-poll frame (R126). -/
  | txPollFixConfig
  /-- An inbound valid frame (0x01, 0x07) with this payload of at least 92 bytes (R143). -/
  | rxFixRecord (payload : List Byte)
  /-- An inbound valid frame (0x06, 0x08) with this payload of at least 6 bytes (R160). -/
  | rxRateConfig (payload : List Byte)
  /-- An inbound valid frame (0x06, 0x01) with this payload of at least 8 bytes (R162). -/
  | rxMsgEnableConfig (payload : List Byte)
  /-- An inbound valid frame (0x05, 0x01) with this payload of at least 2 bytes (R163). -/
  | rxAck (payload : List Byte)
  /-- An inbound valid frame (0x05, 0x00) with this payload of at least 2 bytes (R164). -/
  | rxNack (payload : List Byte)
  /-- Any other inbound valid frame: an unknown pair, or a known pair with a short payload (R165). -/
  | rxUnrecognized (cls id : Byte) (payload : List Byte)
  /-- An inbound envelope whose length field exceeds `P_MAX_PAYLOAD` (R184). -/
  | rxOverlongFrame (cls id : Byte) (len : U16)
  deriving DecidableEq, Repr

end Sys2Proof
end

