-- ==== Sys2Proof/Machine/State.lean ====
section
/-! DEFINITION. The state of the block (10_state.md), the records it holds, the output events, and the ways a step can
stop. Register encodings that the spec says are never written (93_implementation_defined.md I16) have no constructor
(entry 9); the numbers of the others are in Machine/Flags.lean. -/

namespace Sys2Proof.Machine

/-! ### Encodings -/

/-- `fs` (R22). -/
inductive FramerState where
  | seeking
  | envelope
  | payload
  | checksum
  deriving DecidableEq, Repr

/-- `mode` (R31). -/
inductive Mode where
  | idle
  | startup
  | stream
  | stopped
  deriving DecidableEq, Repr

/-- `seq_state` (R32). -/
inductive SeqState where
  | notRun
  | await
  | done
  | failed
  | cancelled
  deriving DecidableEq, Repr

/-- `seq_step` (R33). -/
inductive SeqStep where
  | setProtocolFilter
  | setRate
  | enableFixOutput
  | pollRate
  | pollFixConfig
  deriving DecidableEq, Repr

/-- The cause codes 1 to 10 (60_exceptions.md R270). Code 0, "none", is the absence of a cause. -/
inductive Cause where
  | framingLength
  | framingAbort
  | checksum
  | ackTimeout
  | nackReceived
  | configurationFailed
  | transportError
  | transportTimeout
  | illegalEvent
  | cancelled
  deriving DecidableEq, Repr

/-- `seq_fail_reason` when it is not 0 (R37): cause 4 or 5. -/
inductive FailReason where
  | ackTimeout
  | nackReceived
  deriving DecidableEq, Repr

/-- `stop_reason` when it is not 0 (R41): cause 7, 8 or 10. -/
inductive StopReason where
  | transportError
  | transportTimeout
  | cancelled
  deriving DecidableEq, Repr

/-- `warn_rate` and `warn_msg` when they are not NONE (R39). -/
inductive WarnKind where
  | missing
  | mismatch
  deriving DecidableEq, Repr

/-! ### Records -/

/-- A RawFrame (R48). -/
structure RawFrame where
  cls : Byte
  id : Byte
  length : U16
  payload : List Byte
  checksumA : Byte
  checksumB : Byte
  deriving DecidableEq, Repr

/-- A RateConfig (R50). -/
structure RateConfig where
  measRate : U16
  navRate : U16
  timeRef : U16
  deriving DecidableEq, Repr

/-- A MsgEnableConfig (R51). -/
structure MsgEnableConfig where
  msgClass : Byte
  msgId : Byte
  rates : Vector Byte 6
  enabled : Bool
  deriving DecidableEq, Repr

/-- What an Ack or a Nack holds (R52). -/
structure AckEcho where
  echoedClass : Byte
  echoedId : Byte
  deriving DecidableEq, Repr

/-- A FixRecord (R53). An unsigned field or a flag set is its raw bits; a signed field is the integer its
two's-complement bits stand for (30_encoding.md R85; entry 12). -/
structure FixRecord where
  iTOW : U32
  year : U16
  month : Byte
  day : Byte
  hour : Byte
  min : Byte
  sec : Byte
  valid : Byte
  tAcc : U32
  nano : Int
  fixType : Byte
  flags : Byte
  flags2 : Byte
  numSV : Byte
  lon : Int
  lat : Int
  height : Int
  hMSL : Int
  hAcc : U32
  vAcc : U32
  velN : Int
  velE : Int
  velD : Int
  gSpeed : Int
  headMot : Int
  sAcc : U32
  headAcc : U32
  pDOP : U16
  flags3 : Byte
  headVeh : Int
  magDec : Int
  magAcc : U16
  deriving DecidableEq, Repr

/-- A DecodedMessage (R49). -/
inductive DecodedMessage where
  | fixRecord (r : FixRecord)
  | rateConfig (c : RateConfig)
  | msgEnableConfig (m : MsgEnableConfig)
  | ack (a : AckEcho)
  | nack (a : AckEcho)
  | unrecognized (cls id : Byte)
  deriving DecidableEq, Repr

/-! ### Output events -/

/-- The `code` and `info` of an ERROR event (60_exceptions.md R272): codes 3, 7 and 9. -/
inductive ErrorInfo where
  /-- Code 3: the received and the computed checksum bytes. -/
  | checksum (received computed : Byte × Byte)
  /-- Code 7: `fs` at the start of the step. -/
  | transportError (fsBefore : FramerState)
  /-- Code 9: the refused event word. -/
  | illegalEvent (word : U16)
  deriving DecidableEq, Repr

/-- The `readback` of a SEQ_WARNING event (R272). -/
inductive Readback where
  | none
  | rate (c : RateConfig)
  | msg (m : MsgEnableConfig)
  deriving DecidableEq, Repr

/-- An output event (R272). -/
inductive OutEvent where
  | txFrame (bytes : List Byte)
  | frameOk (frame : RawFrame)
  | msg (m : DecodedMessage)
  | fixPublish (r : FixRecord) (seq : U32)
  | error (info : ErrorInfo)
  | seqStepOk (step : SeqStep)
  | seqRetry (step : SeqStep) (reason : FailReason) (retries : Nat)
  | seqWarning (step : SeqStep) (kind : WarnKind) (readback : Readback)
  | seqDone
  | seqFailed (step : SeqStep) (reason : FailReason)
  | seqCancelled (step : SeqStep)
  | streamStarted
  | streamStopped (reason : StopReason)
  deriving DecidableEq, Repr

/-! ### Registers -/

/-- The payload buffer's cells: (address, byte) pairs in canonical form (`Memory.wf`, Machine/Ops.lean). An unlisted
address has not been written since the last draw (entries 6 and 7). -/
abbrev Memory := List Host.Cell

/-- The framer registers (R22 to R28). -/
structure Framer where
  fs : FramerState
  fIdx : U16
  winValid : Bool
  winByte : Byte
  fClass : Byte
  fId : Byte
  fLen : U16
  fPay : Memory
  runA : Byte
  runB : Byte
  fCka : Byte
  deriving DecidableEq, Repr

/-- The sequencer registers (R32 to R39). -/
structure Sequencer where
  state : SeqState
  step : SeqStep
  preset : Preset
  verify : Bool
  retries : Nat
  wait : U32
  failStep : Option SeqStep
  failReason : Option FailReason
  rbRate : Option RateConfig
  rbMsg : Option MsgEnableConfig
  warnRate : Option WarnKind
  warnMsg : Option WarnKind
  deriving DecidableEq, Repr

/-- The stream and output registers (R40 to R42). -/
structure Stream where
  rxIdle : U32
  stopReason : Option StopReason
  fixOut : Option FixRecord
  fixSeq : U32
  deriving DecidableEq, Repr

/-- The seven counters (R43). -/
structure Counters where
  framesOk : U32
  ckErr : U32
  lenErr : U32
  abort : U32
  rxErr : U32
  unrec : U32
  illegal : U32
  deriving DecidableEq, Repr

/-- The state of the block: every register of 10_state.md, and the model's own last four fields. -/
structure State where
  /-- The framer registers (R22 to R28). -/
  framer : Framer
  /-- `last_frame` (R29). -/
  lastFrame : Option RawFrame
  /-- `last_msg` (R30). -/
  lastMsg : Option DecodedMessage
  /-- `mode` (R31). -/
  mode : Mode
  /-- The sequencer registers (R32 to R39). -/
  seq : Sequencer
  /-- The stream and output registers (R40 to R42). -/
  stream : Stream
  /-- The seven counters (R43). -/
  cnt : Counters
  /-- `err_sticky` (R45). -/
  errSticky : U16
  /-- The model's own: the parameters of the instance (00_scope.md R7). No step writes them (entry 5). -/
  par : Params
  /-- The model's own: which draw the unwritten bytes of `f_pay` come from (entry 6). -/
  draws : Nat
  /-- The model's own: the event words delivered and not yet taken, oldest first (entry 2). -/
  inbox : List U16
  /-- The model's own: the output events emitted so far, oldest first (entry 4). -/
  out : List OutEvent
  deriving DecidableEq, Repr

/-- The framer registers at reset (70_reset_and_hazards.md R300). `f_pay` has nothing written. -/
def Framer.reset : Framer where
  fs := .seeking
  fIdx := 0
  winValid := false
  winByte := 0x00
  fClass := 0
  fId := 0
  fLen := 0
  fPay := []
  runA := 0
  runB := 0
  fCka := 0

/-- The sequencer registers at reset (R300). -/
def Sequencer.reset : Sequencer where
  state := .notRun
  step := .setProtocolFilter
  preset := .r4x2
  verify := false
  retries := 0
  wait := 0
  failStep := none
  failReason := none
  rbRate := none
  rbMsg := none
  warnRate := none
  warnMsg := none

/-- The stream and output registers at reset (R300). -/
def Stream.reset : Stream where
  rxIdle := 0
  stopReason := none
  fixOut := none
  fixSeq := 0

/-- The counters at reset (R300). -/
def Counters.reset : Counters where
  framesOk := 0
  ckErr := 0
  lenErr := 0
  abort := 0
  rxErr := 0
  unrec := 0
  illegal := 0

/-- The machine right after power-on (R301): the reset state of R300, with the parameters of this hardware, no event
delivered and nothing emitted. -/
def State.reset : State where
  framer := .reset
  lastFrame := none
  lastMsg := none
  mode := .idle
  seq := .reset
  stream := .reset
  cnt := .reset
  errSticky := 0x0000
  par := Params.hardware
  draws := 0
  inbox := []
  out := []

/-! ### How a step can stop -/

/-- The faults of the model. The block itself has none (60_exceptions.md R277): both stand for states that no run
reaches, where the spec gives no behaviour. -/
inductive Fault where
  /-- Raised by RX_BYTE, and by an inbound message whose payload is longer than the buffer, on an access to the payload
  buffer at an address of `P_MAX_PAYLOAD` or more, which does not exist (20_memory.md R61). Safe (entry 7). -/
  | payloadAddress (addr : Nat)
  /-- Raised by RX_BYTE when `f_idx` is above 3 in ENVELOPE or above 1 in CHECKSUM, which no rule covers (R23).
  Safe (entry 8). -/
  | framerIndex (idx : U16)
  deriving DecidableEq, Repr

/-- The refusals of the model. -/
inductive Refusal where
  /-- Raised by an arm of `exec` whose instruction has no meaning yet. Safe. No arm is of that kind. -/
  | notModelled (mnemonic : String)
  deriving DecidableEq, Repr

end Sys2Proof.Machine
end

