-- ==== Sys2Proof/Machine/Operands.lean ====
section
/-! DEFINITION. Reading fields of a payload (00_scope.md R10; 30_encoding.md R84 to R86; 20_memory.md R60, R63). -/

namespace Sys2Proof.Machine

/-- The payload byte at an offset. Defined by the spec only below the payload's length (20_memory.md R64).
DESIGN CHOICE: 0 beyond it, which no step reads, because `decodePayload` checks the length before every decode
(entry 21). -/
def byteAt (p : List Byte) (o : Nat) : Byte := p.getD o 0

/-- `MemRead(addr, n)` (R10): the sum over k of `payload[addr+k] * 256^k`. -/
def memRead (p : List Byte) (addr : Nat) : Nat → Nat
  | 0 => 0
  | n + 1 => (byteAt p addr).toNat + 256 * memRead p (addr + 1) n

/-- A 16-bit unsigned field, `LE16(p, o)` (R10). -/
def le16 (p : List Byte) (o : Nat) : U16 := BitVec.ofNat 16 (memRead p o 2)

/-- A 32-bit unsigned field, `LE32(p, o)` (R10). -/
def le32 (p : List Byte) (o : Nat) : U32 := BitVec.ofNat 32 (memRead p o 4)

/-- The two's-complement reading of an `n`-byte raw value (R85). -/
def twosComplement (n u : Nat) : Int :=
  if u < 2 ^ (8 * n - 1) then (u : Int) else (u : Int) - 2 ^ (8 * n)

/-- A 16-bit signed field, `S16(p, o)` (R10). -/
def s16 (p : List Byte) (o : Nat) : Int := twosComplement 2 (memRead p o 2)

/-- A 32-bit signed field, `S32(p, o)` (R10). -/
def s32 (p : List Byte) (o : Nat) : Int := twosComplement 4 (memRead p o 4)

end Sys2Proof.Machine
end

