-- ==== Sys2Proof/Machine/Codec.lean ====
section
/-! DEFINITION. The Message Codec's payload decoding (42_codec_decode.md R140 to R165): a pure, total function. -/

namespace Sys2Proof.Machine

/-- `decode_fix(p)` (R143), by the layout of R144. Bytes 79 to 83 are reserved and not read (R93). -/
def decodeFix (p : List Byte) : FixRecord where
  iTOW := le32 p 0
  year := le16 p 4
  month := byteAt p 6
  day := byteAt p 7
  hour := byteAt p 8
  min := byteAt p 9
  sec := byteAt p 10
  valid := byteAt p 11
  tAcc := le32 p 12
  nano := s32 p 16
  fixType := byteAt p 20
  flags := byteAt p 21
  flags2 := byteAt p 22
  numSV := byteAt p 23
  lon := s32 p 24
  lat := s32 p 28
  height := s32 p 32
  hMSL := s32 p 36
  hAcc := le32 p 40
  vAcc := le32 p 44
  velN := s32 p 48
  velE := s32 p 52
  velD := s32 p 56
  gSpeed := s32 p 60
  headMot := s32 p 64
  sAcc := le32 p 68
  headAcc := le32 p 72
  pDOP := le16 p 76
  flags3 := byteAt p 78
  headVeh := s32 p 84
  magDec := s16 p 88
  magAcc := le16 p 90

/-- `decode_rate(p)` (R160). -/
def decodeRate (p : List Byte) : RateConfig where
  measRate := le16 p 0
  navRate := le16 p 2
  timeRef := le16 p 4

/-- `decode_msg(p)` (R162): `enabled` reads the active interface's rate only. -/
def decodeMsg (par : Params) (p : List Byte) : MsgEnableConfig :=
  let rates : Vector Byte 6 :=
    #v[byteAt p 2, byteAt p 3, byteAt p 4, byteAt p 5, byteAt p 6, byteAt p 7]
  { msgClass := byteAt p 0
    msgId := byteAt p 1
    rates := rates
    enabled := rates[par.ifPort] != 0 }

/-- The echoed class and id of an Ack or Nack (R163, R164). -/
def decodeEcho (p : List Byte) : AckEcho where
  echoedClass := byteAt p 0
  echoedId := byteAt p 1

/-- `decode(c, i, p)` (R140). -/
def decodePayload (par : Params) (cls id : Byte) (p : List Byte) : DecodedMessage :=
  let n := p.length
  if cls = 0x06 ∧ id = 0x08 ∧ 6 ≤ n then .rateConfig (decodeRate p)
  else if cls = 0x06 ∧ id = 0x01 ∧ 8 ≤ n then .msgEnableConfig (decodeMsg par p)
  else if cls = 0x01 ∧ id = 0x07 ∧ 92 ≤ n then .fixRecord (decodeFix p)
  else if cls = 0x05 ∧ id = 0x01 ∧ 2 ≤ n then .ack (decodeEcho p)
  else if cls = 0x05 ∧ id = 0x00 ∧ 2 ≤ n then .nack (decodeEcho p)
  else .unrecognized cls id

end Sys2Proof.Machine
end

