-- ==== Sys2Proof/Machine/Checksum.lean ====
section
/-! DEFINITION. The Checksum Unit (40_checksum.md): pure functions over bytes, with no state and no side effect (R113). -/

namespace Sys2Proof.Machine

/-- `ck_step` on a pair of accumulators (R112): the second sum adds the first one just written. -/
def ckStep (r : Byte × Byte) (b : Byte) : Byte × Byte :=
  (r.1 + b, r.2 + (r.1 + b))

/-- `compute(bytes)` (R110): both sums start at 0 and take the bytes first to last, modulo 256. -/
def compute (bytes : List Byte) : Byte × Byte :=
  bytes.foldl ckStep (0, 0)

end Sys2Proof.Machine
end

