-- ==== Sys2Proof/Machine/Frame.lean ====
section
/-! DEFINITION. The wire frame (30_encoding.md R80 to R89) and the message map's minimum lengths (R90). -/

namespace Sys2Proof.Machine

/-- The two sync bytes (R81). -/
def sync1 : Byte := 0xB5

/-- The second sync byte (R81). -/
def sync2 : Byte := 0x62

/-- The length field from its two bytes, low byte first (R82): `zext_16(lo) | (zext_16(hi) << 8)`. -/
def lengthField (lo hi : Byte) : U16 :=
  lo.zeroExtend 16 ||| (hi.zeroExtend 16 <<< 8)

/-- The low byte of a 16-bit value, `v[7:0]`. -/
def lowByte (v : U16) : Byte := v.extractLsb' 0 8

/-- The high byte of a 16-bit value, `v[15:8]`. -/
def highByte (v : U16) : Byte := v.extractLsb' 8 8

/-- The bytes the checksum covers (R83): class, id, length low, length high and the payload, where `len` is the
length field. -/
def frameBody (cls id : Byte) (len : U16) (payload : List Byte) : List Byte :=
  cls :: id :: lowByte len :: highByte len :: payload

/-- The length field of a payload (R89: `len(p) mod 256`, `len(p) div 256`). R89 asks for at most 65535 bytes.
DESIGN CHOICE: above that it is the length modulo 65536 (entry 22). -/
def payloadLength (payload : List Byte) : U16 := BitVec.ofNat 16 payload.length

/-- `frame(c, i, p)` (R89): the sync bytes, the body, the two checksum bytes. Beyond 65535 payload bytes, where R89
gives no result, the length field wraps (entry 22). -/
def frame (cls id : Byte) (payload : List Byte) : List Byte :=
  let body := frameBody cls id (payloadLength payload) payload
  let ck := compute body
  sync1 :: sync2 :: (body ++ [ck.1, ck.2])

/-- The minimum payload length of a (class, id) pair that has a decode (R90, column six; 42_codec_decode.md R140). -/
def minPayload (cls id : Byte) : Option Nat :=
  if cls = 0x06 ∧ id = 0x08 then some 6
  else if cls = 0x06 ∧ id = 0x01 then some 8
  else if cls = 0x01 ∧ id = 0x07 then some 92
  else if cls = 0x05 ∧ id = 0x01 then some 2
  else if cls = 0x05 ∧ id = 0x00 then some 2
  else none

/-- A frame of this pair and payload length decodes as a kind other than Unrecognized (R92, R140). -/
def recognized (cls id : Byte) (n : Nat) : Bool :=
  match minPayload cls id with
  | some m => decide (m ≤ n)
  | none => false

end Sys2Proof.Machine
end

