-- ==== Sys2Proof/Machine/Commands.lean ====
section
/-! DEFINITION. The command template store (41_codec_encode.md R120 to R128): six frames, fixed by the model instance. -/

namespace Sys2Proof.Machine

/-- The class of a command's frame (30_encoding.md R90). Every command is of class 0x06. -/
def commandClass : Command → Byte
  | .setProtocolFilter => 0x06
  | .setRate4x2 => 0x06
  | .setRate2x1 => 0x06
  | .enableFixOutput => 0x06
  | .pollRate => 0x06
  | .pollFixConfig => 0x06

/-- The id of a command's frame (30_encoding.md R90). -/
def commandId : Command → Byte
  | .setProtocolFilter => 0x00
  | .setRate4x2 => 0x08
  | .setRate2x1 => 0x08
  | .enableFixOutput => 0x01
  | .pollRate => 0x08
  | .pollFixConfig => 0x01

/-- The payload of a command (R121 to R126). -/
def commandPayload (par : Params) : Command → List Byte
  | .setProtocolFilter => par.prtPayload.toList
  | .setRate4x2 => [0xFA, 0x00, 0x02, 0x00, 0x00, 0x00]
  | .setRate2x1 => [0xF4, 0x01, 0x02, 0x00, 0x00, 0x00]
  | .enableFixOutput => [0x01, 0x07, 0x01]
  | .pollRate => []
  | .pollFixConfig => [0x01, 0x07]

/-- The whole frame of a command (R120): `frame(class, id, payload)`. -/
def commandFrame (par : Params) (c : Command) : List Byte :=
  frame (commandClass c) (commandId c) (commandPayload par c)

/-- `ENC_SET_RATE(p)` selects the set-rate command by preset (R127). -/
def setRateCommand : Preset → Command
  | .r4x2 => .setRate4x2
  | .r2x1 => .setRate2x1

/-- The acknowledgement key of a command (R128): the class and id of its frame. -/
def commandKey (c : Command) : Byte × Byte := (commandClass c, commandId c)

end Sys2Proof.Machine
end

