-- ==== Sys2Proof/WellFormed.lean ====
section
/-! DEFINITION. When an instruction is one that its row of spec/opcode_table.json describes: reserved bits set where
the row asks for one, and payload lengths within the row's bounds (30_encoding.md R90, R96; 43_framer.md R184). -/

namespace Sys2Proof

/-- The operands are those the instruction's row describes. -/
def Instr.wellFormed (par : Params) : Instr → Bool
  | .rxByte _ => true
  | .rxError => true
  | .tick => true
  | .startSeq _ _ => true
  | .startStream => true
  | .cancel => true
  | .reset => true
  | .illegalOp0 _ => true
  | .illegalOpHigh _ => true
  | .illegalRxByte d => decide (d.extractLsb' 8 4 ≠ 0)
  | .illegalRxError d => decide (d ≠ 0)
  | .illegalTick d => decide (d ≠ 0)
  | .illegalStartSeq d => decide (d.extractLsb' 2 10 ≠ 0)
  | .illegalStartStream d => decide (d ≠ 0)
  | .illegalCancel d => decide (d ≠ 0)
  | .illegalReset d => decide (d ≠ 0)
  | .txSetProtocolFilter => true
  | .txSetRate4x2 => true
  | .txSetRate2x1 => true
  | .txEnableFixOutput => true
  | .txPollRate => true
  | .txPollFixConfig => true
  | .rxFixRecord p => decide (92 ≤ p.length) && decide (p.length ≤ par.maxPayload)
  | .rxRateConfig p => decide (6 ≤ p.length) && decide (p.length ≤ par.maxPayload)
  | .rxMsgEnableConfig p => decide (8 ≤ p.length) && decide (p.length ≤ par.maxPayload)
  | .rxAck p => decide (2 ≤ p.length) && decide (p.length ≤ par.maxPayload)
  | .rxNack p => decide (2 ≤ p.length) && decide (p.length ≤ par.maxPayload)
  | .rxUnrecognized c i p => !Machine.recognized c i p.length && decide (p.length ≤ par.maxPayload)
  | .rxOverlongFrame _ _ len => decide (par.maxPayload < len.toNat)

end Sys2Proof
end

