-- ==== Sys2Proof/Decode.lean ====
section
/-! DEFINITION. Decoding: the input event word (30_encoding.md R95, R96) and the wire frame (R80 to R92), and after it
the encoder, the pseudo-events (R98) and the text of an event (R97).

An event word decodes to one of sixteen classes, never to nothing: the refused words are instructions of their own
(R96). A wire frame has a direction, which its bytes do not carry: the block sends the six commands and receives every
other frame, and the same bytes received decode as an inbound message (42_codec_decode.md R140). -/

namespace Sys2Proof

/-! ### The input event word -/

/-- An event word: bits 15 to 12 the operation, bits 11 to 0 the data (R95). -/
def eventWord (op : BitVec 4) (data : BitVec 12) : U16 := op ++ data

/-- The operation of an event word, `w[15:12]` (R95). -/
def eventOp (w : U16) : BitVec 4 := w.extractLsb' 12 4

/-- The data of an event word, `w[11:0]` (R95). -/
def eventData (w : U16) : BitVec 12 := w.extractLsb' 0 12

/-- The preset of START_SEQ, `data[0]` (R95: 0 = R4X2, 1 = R2X1). -/
def presetOfBit (b : Bool) : Preset := if b then .r2x1 else .r4x2

/-- The bit of a preset (R95). -/
def presetBit : Preset → Bool
  | .r4x2 => false
  | .r2x1 => true

/-- The decode of an input event word (R95, R96). Total: every word is one of the sixteen classes of the table. -/
def decodeWord (w : U16) : Instr :=
  let data := eventData w
  match (eventOp w).toNat with
  | 0 => .illegalOp0 data
  | 1 => if data.extractLsb' 8 4 = 0 then .rxByte (data.extractLsb' 0 8) else .illegalRxByte data
  | 2 => if data = 0 then .rxError else .illegalRxError data
  | 3 => if data = 0 then .tick else .illegalTick data
  | 4 => if data.extractLsb' 2 10 = 0 then .startSeq (presetOfBit (data.getLsbD 0)) (data.getLsbD 1)
         else .illegalStartSeq data
  | 5 => if data = 0 then .startStream else .illegalStartStream data
  | 6 => if data = 0 then .cancel else .illegalCancel data
  | 7 => if data = 0 then .reset else .illegalReset data
  | _ => .illegalOpHigh (w.extractLsb' 0 15)

/-! ### The wire frame -/

/-- Why a byte string is no instruction. -/
inductive Reject where
  /-- The bytes do not begin with the sync pattern (R81). -/
  | noSync
  /-- The bytes end before the frame does (R88). -/
  | truncated
  /-- The checksum bytes are not `compute` of the body (40_checksum.md R111). -/
  | badChecksum
  /-- Bytes follow the instruction where one whole instruction was asked for. -/
  | trailingBytes
  /-- An outbound byte string that is none of the six command frames (41_codec_encode.md R120). -/
  | notACommand
  deriving DecidableEq, Repr

/-- The kind an inbound valid frame is, by class, id and payload length (R90, 42_codec_decode.md R140). -/
def classify (cls id : Byte) (payload : List Byte) : Instr :=
  if cls = 0x06 ∧ id = 0x08 ∧ 6 ≤ payload.length then .rxRateConfig payload
  else if cls = 0x06 ∧ id = 0x01 ∧ 8 ≤ payload.length then .rxMsgEnableConfig payload
  else if cls = 0x01 ∧ id = 0x07 ∧ 92 ≤ payload.length then .rxFixRecord payload
  else if cls = 0x05 ∧ id = 0x01 ∧ 2 ≤ payload.length then .rxAck payload
  else if cls = 0x05 ∧ id = 0x00 ∧ 2 ≤ payload.length then .rxNack payload
  else .rxUnrecognized cls id payload

/-- An inbound message at the head of a byte string, with the bytes after it. A length field above `P_MAX_PAYLOAD`
ends the message at its envelope (43_framer.md R184); else the length field delimits the frame (R88). -/
def decodeInbound (par : Params) : List Byte → Except Reject (Instr × List Byte)
  | s1 :: s2 :: cls :: id :: lo :: hi :: rest =>
    if s1 ≠ Machine.sync1 ∨ s2 ≠ Machine.sync2 then .error .noSync
    else
      let len := Machine.lengthField lo hi
      if par.maxPayload < len.toNat then .ok (.rxOverlongFrame cls id len, rest)
      else if rest.length < len.toNat + 2 then .error .truncated
      else
        let payload := rest.take len.toNat
        match rest.drop len.toNat with
        | a :: b :: rest' =>
          if Machine.compute (Machine.frameBody cls id len payload) = (a, b) then
            .ok (classify cls id payload, rest')
          else .error .badChecksum
        | _ => .error .truncated
  | _ => .error .truncated

/-- The instruction that sends a command (R91). -/
def Command.toInstr : Command → Instr
  | .setProtocolFilter => .txSetProtocolFilter
  | .setRate4x2 => .txSetRate4x2
  | .setRate2x1 => .txSetRate2x1
  | .enableFixOutput => .txEnableFixOutput
  | .pollRate => .txPollRate
  | .pollFixConfig => .txPollFixConfig

/-- The six commands in the order of R91. -/
def allCommands : List Command :=
  [.setProtocolFilter, .setRate4x2, .setRate2x1, .enableFixOutput, .pollRate, .pollFixConfig]

/-- The command whose template (41_codec_encode.md R120) the bytes are. -/
def decodeOutbound (par : Params) (bytes : List Byte) : Except Reject Command :=
  match allCommands.find? (fun c => Machine.commandFrame par c == bytes) with
  | some c => .ok c
  | none => .error .notACommand

/-- An instruction as the block meets it: an input event word, or a wire message with its direction. -/
inductive Code where
  | event (w : U16)
  | inbound (bytes : List Byte)
  | outbound (bytes : List Byte)
  deriving DecidableEq, Repr

/-- The decode of one whole instruction. Total; what is no instruction is rejected by name. -/
def decode (par : Params) : Code → Except Reject Instr
  | .event w => .ok (decodeWord w)
  | .inbound bytes =>
    match decodeInbound par bytes with
    | .ok (i, []) => .ok i
    | .ok (_, _ :: _) => .error .trailingBytes
    | .error r => .error r
  | .outbound bytes =>
    match decodeOutbound par bytes with
    | .ok c => .ok c.toInstr
    | .error r => .error r

/-! ### The encoder -/

/-- The data of a START_SEQ word (R95): `[11:2] = 0`, `[1] = v`, `[0] = p`. -/
def startSeqData (p : Preset) (v : Bool) : BitVec 12 :=
  (0 : BitVec 10) ++ BitVec.ofBool v ++ BitVec.ofBool (presetBit p)

/-- The words of an instruction, from the encoding tables (R80, R91, R95, R96). -/
def encode (par : Params) : Instr → Code
  | .rxByte b => .event (eventWord 0x1 ((0 : BitVec 4) ++ b))
  | .rxError => .event (eventWord 0x2 0)
  | .tick => .event (eventWord 0x3 0)
  | .startSeq p v => .event (eventWord 0x4 (startSeqData p v))
  | .startStream => .event (eventWord 0x5 0)
  | .cancel => .event (eventWord 0x6 0)
  | .reset => .event (eventWord 0x7 0)
  | .illegalOp0 d => .event (eventWord 0x0 d)
  | .illegalOpHigh low => .event ((1 : BitVec 1) ++ low)
  | .illegalRxByte d => .event (eventWord 0x1 d)
  | .illegalRxError d => .event (eventWord 0x2 d)
  | .illegalTick d => .event (eventWord 0x3 d)
  | .illegalStartSeq d => .event (eventWord 0x4 d)
  | .illegalStartStream d => .event (eventWord 0x5 d)
  | .illegalCancel d => .event (eventWord 0x6 d)
  | .illegalReset d => .event (eventWord 0x7 d)
  | .txSetProtocolFilter => .outbound (Machine.commandFrame par .setProtocolFilter)
  | .txSetRate4x2 => .outbound (Machine.commandFrame par .setRate4x2)
  | .txSetRate2x1 => .outbound (Machine.commandFrame par .setRate2x1)
  | .txEnableFixOutput => .outbound (Machine.commandFrame par .enableFixOutput)
  | .txPollRate => .outbound (Machine.commandFrame par .pollRate)
  | .txPollFixConfig => .outbound (Machine.commandFrame par .pollFixConfig)
  | .rxFixRecord p => .inbound (Machine.frame 0x01 0x07 p)
  | .rxRateConfig p => .inbound (Machine.frame 0x06 0x08 p)
  | .rxMsgEnableConfig p => .inbound (Machine.frame 0x06 0x01 p)
  | .rxAck p => .inbound (Machine.frame 0x05 0x01 p)
  | .rxNack p => .inbound (Machine.frame 0x05 0x00 p)
  | .rxUnrecognized c i p => .inbound (Machine.frame c i p)
  | .rxOverlongFrame c i len =>
    .inbound [Machine.sync1, Machine.sync2, c, i, Machine.lowByte len, Machine.highByte len]

/-! ### Pseudo-events and text -/

/-- The event word of `RX_BYTE b` (R95). -/
def rxByteWord (b : Byte) : U16 := eventWord 0x1 ((0 : BitVec 4) ++ b)

/-- `RX_BYTES b0 ... bk` (R98). -/
def rxBytesWords (bytes : List Byte) : List U16 := bytes.map rxByteWord

/-- `RX_FRAME c, i, [p...]` (R98): `RX_BYTES` of `frame(c, i, p)`. -/
def rxFrameWords (cls id : Byte) (payload : List Byte) : List U16 :=
  rxBytesWords (Machine.frame cls id payload)

/-- `TICKS n` (R98): `n` consecutive TICK events. -/
def tickWords (n : Nat) : List U16 := List.replicate n (eventWord 0x3 0)

/-- A byte in the form `0xNN` (R97). Entry 19. -/
def byteText (b : Byte) : String :=
  let digits := Nat.toDigits 16 b.toNat
  "0x" ++ (String.ofList ((if digits.length < 2 then ['0'] else []) ++ digits)).toUpper

/-- The text of a legal event, as the mnemonic column of R95 writes it (R97). Entry 19. -/
def eventText : Instr → Option String
  | .rxByte b => some ("RX_BYTE " ++ byteText b)
  | .rxError => some "RX_ERROR"
  | .tick => some "TICK"
  | .startSeq p v =>
    some ("START_SEQ " ++ (if presetBit p then "R2X1" else "R4X2") ++ ", verify=" ++ (if v then "1" else "0"))
  | .startStream => some "START_STREAM"
  | .cancel => some "CANCEL"
  | .reset => some "RESET"
  | _ => none

/-! ### The opcode table's numbering -/

/-- The first `n` bytes of a number laid out as the table does: byte 0 is its least significant byte. -/
def bytesOfNat (n w : Nat) : List Byte :=
  (List.range n).map fun k => BitVec.ofNat 8 (w >>> (8 * k))

/-- The bytes of the wire message at the head of the number `w`: its first six bytes, and the `len + 2` that follow
them when its length field is within `P_MAX_PAYLOAD` (R88). -/
def wireBytes (par : Params) (w : Nat) : List Byte :=
  let len := (Machine.lengthField (BitVec.ofNat 8 (w >>> 32)) (BitVec.ofNat 8 (w >>> 40))).toNat
  if par.maxPayload < len then bytesOfNat 6 w else bytesOfNat (len + 8) w

/-- The instruction of a table row's bits. Rows of 16 bits are event words; longer rows are wire messages. The table's
numbers carry no direction: the six fully fixed command rows are read first, as the table lets its legal event rows
take precedence over the wider refused ones (entry 11). -/
def decodeTableWord (nbits w : Nat) : Option Instr :=
  if nbits ≤ 16 then some (decodeWord (BitVec.ofNat 16 w))
  else
    let bytes := wireBytes Params.hardware w
    match decode Params.hardware (.outbound bytes) with
    | .ok i => some i
    | .error _ =>
      match decode Params.hardware (.inbound bytes) with
      | .ok i => some i
      | .error _ => none

end Sys2Proof
end

