-- ==== Sys2Proof/Machine/Flags.lean ====
section
/-! DEFINITION. The numbers of the register encodings (10_state.md R22, R31 to R33, R37, R39, R41), the cause codes and
the bits of `err_sticky` (R45; 60_exceptions.md R270), and the flag sets of a FixRecord (42_codec_decode.md R150 to
R155). -/

namespace Sys2Proof.Machine

/-! ### Register encodings, as a host snapshot reads them (R47) -/

/-- `fs` (R22). -/
def FramerState.code : FramerState → BitVec 2
  | .seeking => 0
  | .envelope => 1
  | .payload => 2
  | .checksum => 3

/-- `mode` (R31). -/
def Mode.code : Mode → BitVec 2
  | .idle => 0
  | .startup => 1
  | .stream => 2
  | .stopped => 3

/-- `seq_state` (R32). -/
def SeqState.code : SeqState → BitVec 3
  | .notRun => 0
  | .await => 1
  | .done => 2
  | .failed => 3
  | .cancelled => 4

/-- `seq_step` (R33). -/
def SeqStep.code : SeqStep → BitVec 3
  | .setProtocolFilter => 0
  | .setRate => 1
  | .enableFixOutput => 2
  | .pollRate => 3
  | .pollFixConfig => 4

/-- The number of a cause (R270). -/
def Cause.code : Cause → Nat
  | .framingLength => 1
  | .framingAbort => 2
  | .checksum => 3
  | .ackTimeout => 4
  | .nackReceived => 5
  | .configurationFailed => 6
  | .transportError => 7
  | .transportTimeout => 8
  | .illegalEvent => 9
  | .cancelled => 10

/-- A failure reason is a cause (R37). -/
def FailReason.cause : FailReason → Cause
  | .ackTimeout => .ackTimeout
  | .nackReceived => .nackReceived

/-- A stop reason is a cause (R41). -/
def StopReason.cause : StopReason → Cause
  | .transportError => .transportError
  | .transportTimeout => .transportTimeout
  | .cancelled => .cancelled

/-- `seq_fail_reason` (R37): 0 when there is none. -/
def failReasonCode : Option FailReason → Nat
  | none => 0
  | some r => r.cause.code

/-- `stop_reason` (R41): 0 when there is none. -/
def stopReasonCode : Option StopReason → BitVec 4
  | none => 0
  | some r => BitVec.ofNat 4 r.cause.code

/-- `warn_rate`, `warn_msg` (R39): 0 is NONE, 1 MISSING, 2 MISMATCH. -/
def warnCode : Option WarnKind → BitVec 2
  | none => 0
  | some .missing => 1
  | some .mismatch => 2

/-- The cause an ERROR event reports (R272): 3, 7 or 9. -/
def ErrorInfo.cause : ErrorInfo → Cause
  | .checksum _ _ => .checksum
  | .transportError _ => .transportError
  | .illegalEvent _ => .illegalEvent

/-! ### The bits of err_sticky -/

/-- The bit of `err_sticky` a cause sets: bit `n` for code `n` (R45, R270). -/
def Cause.bit (c : Cause) : U16 := 1#16 <<< c.code

/-- `err_sticky[n]` for the cause of code `n` (R45). -/
def State.sticky (s : State) (c : Cause) : Bool := s.errSticky.getLsbD c.code

/-! ### The flag sets of a FixRecord

Accessors on the raw byte (30_encoding.md R87). The record keeps every bit, named or not (R94). -/

/-- A one-bit flag by its mask (R87). -/
def flagOf (raw mask : Byte) : Bool := (raw &&& mask) != 0

/-- UTC date valid (R150). -/
def FixRecord.utcDateValid (r : FixRecord) : Bool := flagOf r.valid 0x01

/-- UTC time valid (R150). -/
def FixRecord.utcTimeValid (r : FixRecord) : Bool := flagOf r.valid 0x02

/-- Fully resolved (R150). -/
def FixRecord.fullyResolved (r : FixRecord) : Bool := flagOf r.valid 0x04

/-- Magnetic declination valid (R150). -/
def FixRecord.magneticDeclinationValid (r : FixRecord) : Bool := flagOf r.valid 0x08

/-- Fix OK (R151). -/
def FixRecord.fixOk (r : FixRecord) : Bool := flagOf r.flags 0x01

/-- Differential corrections applied (R151). -/
def FixRecord.differentialApplied (r : FixRecord) : Bool := flagOf r.flags 0x02

/-- The power-save state, `(flags >> 2) & 0x07` (R151). -/
def FixRecord.powerSaveField (r : FixRecord) : Byte := (r.flags >>> 2) &&& 0x07

/-- Vehicle heading valid (R151). -/
def FixRecord.vehicleHeadingValid (r : FixRecord) : Bool := flagOf r.flags 0x20

/-- The carrier-solution state, `(flags >> 6) & 0x03` (R151). -/
def FixRecord.carrierSolutionField (r : FixRecord) : Byte := (r.flags >>> 6) &&& 0x03

/-- Date and time confirmation available (R152). -/
def FixRecord.confirmationAvailable (r : FixRecord) : Bool := flagOf r.flags2 0x20

/-- UTC date confirmed (R152). -/
def FixRecord.utcDateConfirmed (r : FixRecord) : Bool := flagOf r.flags2 0x40

/-- UTC time confirmed (R152). -/
def FixRecord.utcTimeConfirmed (r : FixRecord) : Bool := flagOf r.flags2 0x80

/-- The longitude, latitude and heights are invalid (R153). -/
def FixRecord.positionInvalid (r : FixRecord) : Bool := flagOf r.flags3 0x01

/-- The named fix types (R154). -/
inductive FixType where
  | noFix
  | deadReckoning
  | twoD
  | threeD
  | combined
  | timeOnly
  deriving DecidableEq, Repr

/-- The fix type a raw value names (R154); 6 to 255 name none. -/
def FixRecord.fixTypeName (r : FixRecord) : Option FixType :=
  match r.fixType.toNat with
  | 0 => some .noFix
  | 1 => some .deadReckoning
  | 2 => some .twoD
  | 3 => some .threeD
  | 4 => some .combined
  | 5 => some .timeOnly
  | _ => none

/-- The power-save states (R155). -/
inductive PowerSave where
  | notActive
  | enabled
  | acquisition
  | tracking
  | powerOptimizedTracking
  | inactive
  deriving DecidableEq, Repr

/-- The power-save state a record names (R155); 6 and 7 are reserved and name none. -/
def FixRecord.powerSave (r : FixRecord) : Option PowerSave :=
  match r.powerSaveField.toNat with
  | 0 => some .notActive
  | 1 => some .enabled
  | 2 => some .acquisition
  | 3 => some .tracking
  | 4 => some .powerOptimizedTracking
  | 5 => some .inactive
  | _ => none

/-- The carrier-solution states (R155). -/
inductive CarrierSolution where
  | noSolution
  | float
  | fixed
  deriving DecidableEq, Repr

/-- The carrier-solution state a record names (R155); 3 is reserved and names none. -/
def FixRecord.carrierSolution (r : FixRecord) : Option CarrierSolution :=
  match r.carrierSolutionField.toNat with
  | 0 => some .noSolution
  | 1 => some .float
  | 2 => some .fixed
  | _ => none

/-- The time references (R50, R161). -/
inductive TimeReference where
  | utc
  | deviceTime
  deriving DecidableEq, Repr

/-- The time reference a RateConfig names (R161); 2 to 65535 name none. -/
def RateConfig.timeReference (c : RateConfig) : Option TimeReference :=
  match c.timeRef.toNat with
  | 0 => some .utc
  | 1 => some .deviceTime
  | _ => none

end Sys2Proof.Machine
end

