-- ==== Sys2Proof/Machine/Ops.lean ====
section
/-! DEFINITION. The named operations the meanings share: the payload buffer, output events, taking a cause and refusing
an event (60_exceptions.md R277, R278), the framer's common steps, and sending a command.

Pseudocode of the spec is sequential within a step (00_scope.md R10): an operation reads what the one before it wrote. -/

namespace Sys2Proof.Machine

/-! ### The payload buffer (10_state.md R26; 20_memory.md R61) -/

/-- The canonical form of the buffer's cells: addresses strictly rising. An unlisted address reads as no value of its
own, so no cell can equal it (entry 7). -/
abbrev Memory.wf (m : Memory) : Prop := m.Pairwise fun x y => x.1 < y.1

/-- The byte written at an address, if any was. -/
def Memory.read? : Memory → Nat → Option Byte
  | [], _ => none
  | (k, b) :: m, a => if a = k then some b else Memory.read? m a

/-- Write one byte, keeping the canonical form. -/
def Memory.write : Memory → Nat → Byte → Memory
  | [], a, b => [(a, b)]
  | (k, c) :: m, a, b =>
    if a < k then (a, b) :: (k, c) :: m
    else if a = k then (a, b) :: m
    else (k, c) :: Memory.write m a b

/-- Write bytes at rising addresses from `a` on. -/
def Memory.writeList : Memory → Nat → List Byte → Memory
  | m, _, [] => m
  | m, a, b :: bs => Memory.writeList (m.write a b) (a + 1) bs

/-- The byte `k` of `f_pay` as a host snapshot reads it (10_state.md R47): what was written there since the last draw,
else that draw's free value (R26, R300; entry 6). -/
def State.payByte (s : State) (k : Nat) : Byte :=
  (s.framer.fPay.read? k).getD (Config.freePayByte s.draws k)

/-- The bytes 0 to `n - 1` of `f_pay`. -/
def State.payload (s : State) (n : Nat) : List Byte := (List.range n).map s.payByte

/-! ### Output events and causes -/

/-- `emit E` (00_scope.md R10). -/
def State.emit (e : OutEvent) (s : State) : State := { s with out := s.out ++ [e] }

/-- `raise <Cause>` (00_scope.md R10; 10_state.md R45): set the cause's bit of `err_sticky`. It emits nothing. This is
all there is to taking a cause: no state is saved and control goes to no handler (60_exceptions.md R277), and there is
no return from one (R280). -/
def State.raise (c : Cause) (s : State) : State := { s with errSticky := s.errSticky ||| c.bit }

/-- Refusing an input event (60_exceptions.md R278). -/
def State.refuse (w : U16) (s : State) : State :=
  (State.raise .illegalEvent { s with cnt.illegal := s.cnt.illegal + 1 }).emit (.error (.illegalEvent w))

/-! ### The framer's common steps -/

/-- `enter_seeking()` (43_framer.md R188). -/
def State.enterSeeking (s : State) : State :=
  { s with framer.fs := .seeking, framer.fIdx := 0, framer.winValid := false }

/-- `ck_step(b)` on `run_a` and `run_b` (40_checksum.md R112). -/
def State.ckByte (b : Byte) (s : State) : State :=
  let r := ckStep (s.framer.runA, s.framer.runB) b
  { s with framer.runA := r.1, framer.runB := r.2 }

/-- What every received byte does before the framer takes it (43_framer.md R180; 45_stream.md R254). -/
def State.noteByte (s : State) : State :=
  if s.mode = .stream then { s with stream.rxIdle := 0 } else s

/-- `validate(frame)` (40_checksum.md R111). -/
def validate (f : RawFrame) : Bool :=
  decide (compute (frameBody f.cls f.id f.length f.payload) = (f.checksumA, f.checksumB))

/-- The RawFrame of a valid frame (10_state.md R48) with this class, id and payload. Beyond 65535 payload bytes its
length wraps (entry 22). -/
def rawFrame (cls id : Byte) (p : List Byte) : RawFrame :=
  let len := payloadLength p
  let ck := compute (frameBody cls id len p)
  { cls := cls, id := id, length := len, payload := p, checksumA := ck.1, checksumB := ck.2 }

/-- The framer as it stands when a frame that began in SEEKING has been received up to and including `checksumA`,
here `a` (43_framer.md R181 to R186). -/
def State.loadFrame (cls id : Byte) (p : List Byte) (a : Byte) (s : State) : State :=
  let ck := compute (frameBody cls id (payloadLength p) p)
  { s with framer :=
      { fs := .checksum, fIdx := 1, winValid := false, winByte := sync1,
        fClass := cls, fId := id, fLen := payloadLength p, fPay := s.framer.fPay.writeList 0 p,
        runA := ck.1, runB := ck.2, fCka := a } }

/-- The framer as it stands when a frame that began in SEEKING has been received up to and including the length's low
byte (43_framer.md R181 to R183). -/
def State.loadEnvelope (cls id lo : Byte) (s : State) : State :=
  let ck := compute [cls, id, lo]
  { s with framer :=
      { s.framer with
        fs := .envelope, fIdx := 3, winValid := false, winByte := sync1,
        fClass := cls, fId := id, fLen := lo.zeroExtend 16, runA := ck.1, runB := ck.2 } }

/-! ### Sending a command -/

/-- `send` of a command (44_sequencer.md R212): emit the whole frame (20_memory.md R75), start the wait, and clear the
read-back register of a poll. -/
def State.transmit (c : Command) (s : State) : State :=
  { s.emit (.txFrame (commandFrame s.par c)) with
    seq := { s.seq with
      wait := 0
      rbRate := if c = .pollRate then none else s.seq.rbRate
      rbMsg := if c = .pollFixConfig then none else s.seq.rbMsg } }

end Sys2Proof.Machine
end

