-- ==== Sys2Proof/Machine/Sequencer.lean ====
section
/-! DEFINITION. The Protocol Sequencer (44_sequencer.md). -/

namespace Sys2Proof.Machine

/-! ### Steps and commands -/

/-- The command a step sends (R210); SET_RATE by the preset (41_codec_encode.md R127). -/
def stepCommand (preset : Preset) : SeqStep → Command
  | .setProtocolFilter => .setProtocolFilter
  | .setRate => setRateCommand preset
  | .enableFixOutput => .enableFixOutput
  | .pollRate => .pollRate
  | .pollFixConfig => .pollFixConfig

/-- `key(s)`, the acknowledgement key of a step (R210). -/
def stepKey : SeqStep → Byte × Byte
  | .setProtocolFilter => (0x06, 0x00)
  | .setRate => (0x06, 0x08)
  | .enableFixOutput => (0x06, 0x01)
  | .pollRate => (0x06, 0x08)
  | .pollFixConfig => (0x06, 0x01)

/-- `next(s)` (R211); `none` is END. -/
def nextStep (verify : Bool) : SeqStep → Option SeqStep
  | .setProtocolFilter => some .setRate
  | .setRate => some .enableFixOutput
  | .enableFixOutput => if verify then some .pollRate else none
  | .pollRate => some .pollFixConfig
  | .pollFixConfig => none

/-- `send(s)` (R212). -/
def State.send (step : SeqStep) (s : State) : State := s.transmit (stepCommand s.seq.preset step)

/-! ### Failure of a step -/

/-- `config_failed()` (R222), with the reason just recorded in `seq_fail_reason`. -/
def State.configFailed (reason : FailReason) (s : State) : State :=
  (State.raise .configurationFailed
    { s with seq.state := .failed, seq.failStep := some s.seq.step, mode := .idle }).emit
      (.seqFailed s.seq.step reason)

/-- A retry (R220): count it, report it, and send the same command again. -/
def State.retry (reason : FailReason) (s : State) : State :=
  (State.emit (.seqRetry s.seq.step reason (s.seq.retries + 1))
    { s with seq.retries := s.seq.retries + 1 }).send s.seq.step

/-- `step_failed(reason)` (R220). -/
def State.stepFailed (reason : FailReason) (s : State) : State :=
  let s1 := State.raise reason.cause { s with seq.failReason := some reason }
  if s.seq.retries < retryLimit then s1.retry reason else s1.configFailed reason

/-! ### Read-back checks -/

/-- The rate configuration a preset requests (R226). -/
def requestedRate : Preset → RateConfig
  | .r4x2 => { measRate := 250, navRate := 2, timeRef := 0 }
  | .r2x1 => { measRate := 500, navRate := 2, timeRef := 0 }

/-- `check_rate()` (R226). -/
def State.checkRate (s : State) : State :=
  match s.seq.rbRate with
  | none =>
    ({ s with seq.warnRate := some .missing } : State).emit (.seqWarning .pollRate .missing .none)
  | some c =>
    if c ≠ requestedRate s.seq.preset then
      ({ s with seq.warnRate := some .mismatch } : State).emit (.seqWarning .pollRate .mismatch (.rate c))
    else { s with seq.warnRate := none }

/-- `check_msg()` (R227). -/
def State.checkMsg (s : State) : State :=
  match s.seq.rbMsg with
  | none =>
    ({ s with seq.warnMsg := some .missing } : State).emit (.seqWarning .pollFixConfig .missing .none)
  | some m =>
    if m.enabled = false then
      ({ s with seq.warnMsg := some .mismatch } : State).emit (.seqWarning .pollFixConfig .mismatch (.msg m))
    else { s with seq.warnMsg := none }

/-- The check a step makes on its Ack (R214). -/
def State.checkReadback (s : State) : State :=
  match s.seq.step with
  | .setProtocolFilter => s
  | .setRate => s
  | .enableFixOutput => s
  | .pollRate => s.checkRate
  | .pollFixConfig => s.checkMsg

/-! ### Messages during a step -/

/-- `complete()` (R217). -/
def State.complete (s : State) : State :=
  ({ s with seq.state := .done, mode := .idle } : State).emit .seqDone

/-- Moving on to a step (R214): its retries and its failure reason start anew, and its command is sent. -/
def State.enterStep (n : SeqStep) (s : State) : State :=
  ({ s with seq.step := n, seq.retries := 0, seq.failReason := none } : State).send n

/-- What follows an acknowledged step (R214, R217). -/
def State.advance (s : State) : State :=
  match nextStep s.seq.verify s.seq.step with
  | some n => s.enterStep n
  | none => s.complete

/-- `step_ok()` (R214). -/
def State.stepOk (s : State) : State :=
  (s.checkReadback.emit (.seqStepOk s.seq.step)).advance

/-- `seq_on_msg(m)` (R214 to R216, R221, R223). -/
def State.seqOnMsg (m : DecodedMessage) (s : State) : State :=
  match m with
  | .ack a => if (a.echoedClass, a.echoedId) = stepKey s.seq.step then s.stepOk else s
  | .nack a => if (a.echoedClass, a.echoedId) = stepKey s.seq.step then s.stepFailed .nackReceived else s
  | .rateConfig c => if s.seq.step = .pollRate then { s with seq.rbRate := some c } else s
  | .msgEnableConfig x =>
    if s.seq.step = .pollFixConfig ∧ x.msgClass = 0x01 ∧ x.msgId = 0x07 then
      { s with seq.rbMsg := some x }
    else s
  | .fixRecord _ => s
  | .unrecognized _ _ => s

/-! ### Starting, ticks and cancel -/

/-- START_SEQ in a mode where it is legal (R213). -/
def State.startSequence (p : Preset) (v : Bool) (s : State) : State :=
  ({ s with
    mode := .startup
    seq := { s.seq with
      state := .await, preset := p, verify := v, step := .setProtocolFilter, retries := 0,
      failStep := none, failReason := none, warnRate := none, warnMsg := none } } : State).send .setProtocolFilter

/-- START_SEQ's legality (R213; 60_exceptions.md R279). -/
def State.seqMayStart (s : State) : Bool :=
  match s.mode with
  | .idle => true
  | .startup => false
  | .stream => false
  | .stopped => true

/-- TICK in STARTUP (R218). -/
def State.seqTick (s : State) : State :=
  let s1 : State := { s with seq.wait := s.seq.wait + 1 }
  if s.par.ackTimeout ≤ s.seq.wait + 1 then s1.stepFailed .ackTimeout else s1

/-- CANCEL in STARTUP (R224). -/
def State.cancelSequence (s : State) : State :=
  (State.raise .cancelled { s with seq.state := .cancelled, mode := .idle }).emit (.seqCancelled s.seq.step)

/-- `START_SEQ p, v` (R213). -/
def execStartSeq (p : Preset) (v : Bool) (s : State) : Host.Outcome State Fault Refusal :=
  if s.seqMayStart then .next (s.startSequence p v)
  else .next (s.refuse (eventWord 0x4 (startSeqData p v)))

end Sys2Proof.Machine
end

