-- ==== Sys2Proof/Machine/Stream.lean ====
section
/-! DEFINITION. The steady-state stream (45_stream.md), and the two events whose effect depends on the mode: TICK and
CANCEL. -/

namespace Sys2Proof.Machine

/-- `publish(r)` (R251): the output pair is written whole and its event emitted. -/
def State.publish (r : FixRecord) (s : State) : State :=
  State.emit (.fixPublish r (s.stream.fixSeq + 1))
    { s with stream.fixOut := some r, stream.fixSeq := s.stream.fixSeq + 1 }

/-- `route(m)` (R250): by the mode at the frame's last byte. -/
def State.route (m : DecodedMessage) (s : State) : State :=
  match s.mode with
  | .startup => s.seqOnMsg m
  | .stream =>
    match m with
    | .fixRecord r => s.publish r
    | .rateConfig _ => s
    | .msgEnableConfig _ => s
    | .ack _ => s
    | .nack _ => s
    | .unrecognized _ _ => s
  | .idle => s
  | .stopped => s

/-- `stop_stream(reason)` (R256). -/
def State.stopStream (reason : StopReason) (s : State) : State :=
  (State.raise reason.cause { s with mode := .stopped, stream.stopReason := some reason }).emit (.streamStopped reason)

/-- `stream_tick()` (R253). -/
def State.streamTick (s : State) : State :=
  let s1 : State := { s with stream.rxIdle := s.stream.rxIdle + 1 }
  if s.par.rxTimeout ≤ s.stream.rxIdle + 1 then s1.stopStream .transportTimeout else s1

/-- START_STREAM in a state where it is legal (R252). -/
def State.startStream (s : State) : State :=
  ({ s with mode := .stream, stream.rxIdle := 0, stream.stopReason := none } : State).emit .streamStarted

/-- START_STREAM's legality (R252; 60_exceptions.md R279). -/
def State.streamMayStart (s : State) : Bool :=
  match s.mode, s.seq.state with
  | .idle, .notRun => true
  | .idle, .done => true
  | .stopped, .notRun => true
  | .stopped, .done => true
  | _, _ => false

/-- `START_STREAM` (R252). -/
def execStartStream (s : State) : Host.Outcome State Fault Refusal :=
  if s.streamMayStart then .next s.startStream else .next (s.refuse (eventWord 0x5 0))

/-- `TICK` (44_sequencer.md R218; R253). -/
def execTick (s : State) : Host.Outcome State Fault Refusal :=
  match s.mode with
  | .startup => .next s.seqTick
  | .stream => .next s.streamTick
  | .idle => .next s
  | .stopped => .next s

/-- `CANCEL` (R255; 44_sequencer.md R224). -/
def execCancel (s : State) : Host.Outcome State Fault Refusal :=
  match s.mode with
  | .stream => .next (s.stopStream .cancelled)
  | .startup => .next s.cancelSequence
  | .idle => .next s
  | .stopped => .next s

end Sys2Proof.Machine
end

