-- ==== Sys2Proof/Machine/Framer.lean ====
section
/-! DEFINITION. The Frame Synchronizer (43_framer.md): RX_BYTE and RX_ERROR. It runs in every mode (R190). -/

namespace Sys2Proof.Machine

/-- `seek(b)` (R181). -/
def State.seek (b : Byte) (s : State) : State :=
  if s.framer.winValid = true ∧ s.framer.winByte = sync1 ∧ b = sync2 then
    { s with framer.fs := .envelope, framer.fIdx := 0, framer.runA := 0, framer.runB := 0,
             framer.winValid := false }
  else { s with framer.winByte := b, framer.winValid := true }

/-- The class byte: `envelope(b)` with `f_idx = 0` (R182). -/
def State.classByte (b : Byte) (s : State) : State :=
  ({ s with framer.fClass := b, framer.fIdx := 1 } : State).ckByte b

/-- The id byte: `envelope(b)` with `f_idx = 1` (R182). -/
def State.idByte (b : Byte) (s : State) : State :=
  ({ s with framer.fId := b, framer.fIdx := 2 } : State).ckByte b

/-- The length low byte: `envelope(b)` with `f_idx = 2` (R183). -/
def State.lengthLow (b : Byte) (s : State) : State :=
  ({ s with framer.fLen := b.zeroExtend 16, framer.fIdx := 3 } : State).ckByte b

/-- Where the framer goes once the length is known (R184). -/
def State.checkLength (len : U16) (s : State) : State :=
  if s.par.maxPayload < len.toNat then
    (State.raise .framingLength { s with cnt.lenErr := s.cnt.lenErr + 1 }).enterSeeking
  else if len = 0 then { s with framer.fs := .checksum, framer.fIdx := 0 }
  else { s with framer.fs := .payload, framer.fIdx := 0 }

/-- The length high byte and the length check: `envelope(b)` with `f_idx = 3` (R184). -/
def State.lengthHigh (b : Byte) (s : State) : State :=
  let len := s.framer.fLen ||| (b.zeroExtend 16 <<< 8)
  (({ s with framer.fLen := len } : State).ckByte b).checkLength len

/-- `envelope(b)` (R182 to R184). -/
def State.envelope (b : Byte) (s : State) : Host.Outcome State Fault Refusal :=
  match s.framer.fIdx.toNat with
  | 0 => .next (s.classByte b)
  | 1 => .next (s.idByte b)
  | 2 => .next (s.lengthLow b)
  | 3 => .next (s.lengthHigh b)
  | _ => .fault (.framerIndex s.framer.fIdx)

/-- `payload_byte(b)` (R185). -/
def State.payloadByte (b : Byte) (s : State) : Host.Outcome State Fault Refusal :=
  if s.framer.fIdx.toNat < s.par.maxPayload then
    let s1 := ({ s with framer.fPay := s.framer.fPay.write s.framer.fIdx.toNat b } : State).ckByte b
    if s.framer.fIdx + 1 = s.framer.fLen then
      .next { s1 with framer.fs := .checksum, framer.fIdx := 0 }
    else .next { s1 with framer.fIdx := s.framer.fIdx + 1 }
  else .fault (.payloadAddress s.framer.fIdx.toNat)

/-- Recording a valid frame and its message (R187): the counters and the two registers. -/
def State.recordFrame (f : RawFrame) (m : DecodedMessage) (s : State) : State :=
  { s with
    cnt.framesOk := s.cnt.framesOk + 1
    cnt.unrec := (match m with
      | .unrecognized _ _ => s.cnt.unrec + 1
      | _ => s.cnt.unrec)
    lastFrame := some f
    lastMsg := some m }

/-- The hand-off of a valid frame (R187): record it, report it, route its message, and return to SEEKING. -/
def State.acceptFrame (f : RawFrame) (m : DecodedMessage) (s : State) : State :=
  ((((s.recordFrame f m).emit (.frameOk f)).emit (.msg m)).route m).enterSeeking

/-- A frame whose checksum does not validate (R187). -/
def State.rejectFrame (b : Byte) (s : State) : State :=
  ((State.raise .checksum { s with cnt.ckErr := s.cnt.ckErr + 1 }).emit
    (.error (.checksum (s.framer.fCka, b) (s.framer.runA, s.framer.runB)))).enterSeeking

/-- `checksumA`: `checksum_byte(b)` with `f_idx = 0` (R186). -/
def State.checksumFirst (b : Byte) (s : State) : State :=
  { s with framer.fCka := b, framer.fIdx := 1 }

/-- `checksumB`: `checksum_byte(b)` with `f_idx = 1` (R187). -/
def State.checksumSecond (b : Byte) (s : State) : Host.Outcome State Fault Refusal :=
  if s.framer.fLen.toNat ≤ s.par.maxPayload then
    let p := s.payload s.framer.fLen.toNat
    let f : RawFrame :=
      { cls := s.framer.fClass, id := s.framer.fId, length := s.framer.fLen, payload := p,
        checksumA := s.framer.fCka, checksumB := b }
    if s.framer.fCka = s.framer.runA ∧ b = s.framer.runB then
      .next (s.acceptFrame f (decodePayload s.par s.framer.fClass s.framer.fId p))
    else .next (s.rejectFrame b)
  else .fault (.payloadAddress s.par.maxPayload)

/-- `checksum_byte(b)` (R186, R187). -/
def State.checksumByte (b : Byte) (s : State) : Host.Outcome State Fault Refusal :=
  match s.framer.fIdx.toNat with
  | 0 => .next (s.checksumFirst b)
  | 1 => s.checksumSecond b
  | _ => .fault (.framerIndex s.framer.fIdx)

/-- The framer on one byte (R180). -/
def State.framerByte (b : Byte) (s : State) : Host.Outcome State Fault Refusal :=
  match s.framer.fs with
  | .seeking => .next (s.seek b)
  | .envelope => s.envelope b
  | .payload => s.payloadByte b
  | .checksum => s.checksumByte b

/-- `RX_BYTE b` (R180). -/
def execRxByte (b : Byte) (s : State) : Host.Outcome State Fault Refusal :=
  s.noteByte.framerByte b

/-- The frame in progress, if any, is aborted (R189). -/
def State.abortFrame (s : State) : State :=
  if s.framer.fs = .seeking then s
  else State.raise .framingAbort { s with cnt.abort := s.cnt.abort + 1 }

/-- `RX_ERROR` up to the stream's stop (R189). -/
def State.transportFailed (s : State) : State :=
  (State.raise .transportError
    (({ s with cnt.rxErr := s.cnt.rxErr + 1 } : State).abortFrame.enterSeeking)).emit
      (.error (.transportError s.framer.fs))

/-- `RX_ERROR` (R189). -/
def execRxError (s : State) : Host.Outcome State Fault Refusal :=
  if s.mode = .stream then .next (s.transportFailed.stopStream .transportError)
  else .next s.transportFailed

end Sys2Proof.Machine
end

