-- ==== Sys2Proof/Machine/Illegal.lean ====
section
/-! DEFINITION. The refused event words (30_encoding.md R96; 60_exceptions.md R278), one meaning for each class of the
opcode table. Each counts, sets bit 9 of `err_sticky`, reports the word, and changes nothing else. -/

namespace Sys2Proof.Machine

/-- Op 0x0 (R96). -/
def execIllegalOp0 (data : BitVec 12) (s : State) : Host.Outcome State Fault Refusal :=
  .next (s.refuse (eventWord 0x0 data))

/-- Op 0x8 to 0xF (R96). -/
def execIllegalOpHigh (low : BitVec 15) (s : State) : Host.Outcome State Fault Refusal :=
  .next (s.refuse ((1 : BitVec 1) ++ low))

/-- RX_BYTE with reserved bits (R96). -/
def execIllegalRxByte (data : BitVec 12) (s : State) : Host.Outcome State Fault Refusal :=
  .next (s.refuse (eventWord 0x1 data))

/-- RX_ERROR with data (R96). -/
def execIllegalRxError (data : BitVec 12) (s : State) : Host.Outcome State Fault Refusal :=
  .next (s.refuse (eventWord 0x2 data))

/-- TICK with data (R96). -/
def execIllegalTick (data : BitVec 12) (s : State) : Host.Outcome State Fault Refusal :=
  .next (s.refuse (eventWord 0x3 data))

/-- START_SEQ with reserved bits (R96). -/
def execIllegalStartSeq (data : BitVec 12) (s : State) : Host.Outcome State Fault Refusal :=
  .next (s.refuse (eventWord 0x4 data))

/-- START_STREAM with data (R96). -/
def execIllegalStartStream (data : BitVec 12) (s : State) : Host.Outcome State Fault Refusal :=
  .next (s.refuse (eventWord 0x5 data))

/-- CANCEL with data (R96). -/
def execIllegalCancel (data : BitVec 12) (s : State) : Host.Outcome State Fault Refusal :=
  .next (s.refuse (eventWord 0x6 data))

/-- RESET with data (R96): it resets nothing. -/
def execIllegalReset (data : BitVec 12) (s : State) : Host.Outcome State Fault Refusal :=
  .next (s.refuse (eventWord 0x7 data))

end Sys2Proof.Machine
end

