-- ==== Sys2Proof/Machine/Messages.lean ====
section
/-! DEFINITION. The inbound wire messages (42_codec_decode.md R143, R160 to R165; 43_framer.md R184, R187). Each meaning
is what the block does with the whole message: the framer has read it from its sync pattern on, and in the step of its
last byte decodes it and hands it over (entries 1 and 18). A payload that the message's row does not describe decodes as
42_codec_decode.md R140 decodes it (entry 21). -/

namespace Sys2Proof.Machine

/-- Receiving a whole valid frame: the framer holds it (43_framer.md R181 to R186), and its last byte decodes its
payload (42_codec_decode.md R140) and hands the message off (R187). A payload longer than the buffer has nowhere to
stand (entry 18). -/
def State.receiveFrame (cls id : Byte) (p : List Byte) (s : State) : Host.Outcome State Fault Refusal :=
  if p.length ≤ s.par.maxPayload then
    .next ((s.noteByte.loadFrame cls id p (rawFrame cls id p).checksumA).acceptFrame (rawFrame cls id p)
      (decodePayload s.par cls id p))
  else .fault (.payloadAddress s.par.maxPayload)

/-- A FixRecord frame (R143). With fewer than the row's 92 payload bytes it is Unrecognized (R140; entry 21). -/
def execRxFixRecord (p : List Byte) (s : State) : Host.Outcome State Fault Refusal :=
  s.receiveFrame 0x01 0x07 p

/-- A RateConfig frame (R160). With fewer than the row's 6 payload bytes it is Unrecognized (R140; entry 21). -/
def execRxRateConfig (p : List Byte) (s : State) : Host.Outcome State Fault Refusal :=
  s.receiveFrame 0x06 0x08 p

/-- A MsgEnableConfig frame (R162). With fewer than the row's 8 payload bytes it is Unrecognized (R140; entry 21). -/
def execRxMsgEnableConfig (p : List Byte) (s : State) : Host.Outcome State Fault Refusal :=
  s.receiveFrame 0x06 0x01 p

/-- An Ack frame (R163). With fewer than the row's 2 payload bytes it is Unrecognized (R140; entry 21). -/
def execRxAck (p : List Byte) (s : State) : Host.Outcome State Fault Refusal :=
  s.receiveFrame 0x05 0x01 p

/-- A Nack frame (R164). With fewer than the row's 2 payload bytes it is Unrecognized (R140; entry 21). -/
def execRxNack (p : List Byte) (s : State) : Host.Outcome State Fault Refusal :=
  s.receiveFrame 0x05 0x00 p

/-- Any other frame (R165). A pair and a length that have a decode, which the row does not describe, decode by it (R140;
entry 21). -/
def execRxUnrecognized (cls id : Byte) (p : List Byte) (s : State) : Host.Outcome State Fault Refusal :=
  s.receiveFrame cls id p

/-- An envelope whose length exceeds `P_MAX_PAYLOAD` (43_framer.md R184). -/
def execRxOverlongFrame (cls id : Byte) (len : U16) (s : State) : Host.Outcome State Fault Refusal :=
  .next ((s.noteByte.loadEnvelope cls id (lowByte len)).lengthHigh (highByte len))

end Sys2Proof.Machine
end

