-- ==== Sys2Proof/Machine/Reset.lean ====
section
/-! DEFINITION. RESET (70_reset_and_hazards.md R300). -/

namespace Sys2Proof.Machine

/-- `RESET` (R300): every register takes its reset value, and the payload buffer is drawn anew (entry 6). The
parameters are not state and do not change (entry 5); the words still to come and the events already emitted belong to
the environment (entries 2 and 4). RESET emits nothing. -/
def execReset (s : State) : Host.Outcome State Fault Refusal :=
  .next { State.reset with
    par := s.par
    draws := s.draws + 1
    inbox := s.inbox
    out := s.out }

end Sys2Proof.Machine
end

