-- ==== Sys2Proof/Machine/Transmit.lean ====
section
/-! DEFINITION. The outbound command frames (41_codec_encode.md R121 to R126; 44_sequencer.md R212). Each meaning is
the sending of that command: the frame goes out as one TX_FRAME, the wait starts anew, and a poll clears its read-back
register. The sequencer's `send(s)` is one of them (entry 1). -/

namespace Sys2Proof.Machine

/-- SET_PROTOCOL_FILTER (R121). -/
def execTxSetProtocolFilter (s : State) : Host.Outcome State Fault Refusal := .next (s.transmit .setProtocolFilter)

/-- SET_RATE_4X2 (R122). -/
def execTxSetRate4x2 (s : State) : Host.Outcome State Fault Refusal := .next (s.transmit .setRate4x2)

/-- SET_RATE_2X1 (R123). -/
def execTxSetRate2x1 (s : State) : Host.Outcome State Fault Refusal := .next (s.transmit .setRate2x1)

/-- ENABLE_FIX_OUTPUT (R124). -/
def execTxEnableFixOutput (s : State) : Host.Outcome State Fault Refusal := .next (s.transmit .enableFixOutput)

/-- POLL_RATE (R125). -/
def execTxPollRate (s : State) : Host.Outcome State Fault Refusal := .next (s.transmit .pollRate)

/-- POLL_FIX_CONFIG (R126). -/
def execTxPollFixConfig (s : State) : Host.Outcome State Fault Refusal := .next (s.transmit .pollFixConfig)

end Sys2Proof.Machine
end

