-- ==== Sys2Proof/Machine/Dispatch.lean ====
section
/-! DEFINITION. One arm per instruction, one direct call of its meaning per arm. -/

namespace Sys2Proof.Machine

def exec (i : Instr) (s : State) : Host.Outcome State Fault Refusal :=
  match i with
  | .rxByte b => Sys2Proof.Machine.execRxByte b s
  | .rxError => Sys2Proof.Machine.execRxError s
  | .tick => Sys2Proof.Machine.execTick s
  | .startSeq p v => Sys2Proof.Machine.execStartSeq p v s
  | .startStream => Sys2Proof.Machine.execStartStream s
  | .cancel => Sys2Proof.Machine.execCancel s
  | .reset => Sys2Proof.Machine.execReset s
  | .illegalOp0 d => Sys2Proof.Machine.execIllegalOp0 d s
  | .illegalOpHigh l => Sys2Proof.Machine.execIllegalOpHigh l s
  | .illegalRxByte d => Sys2Proof.Machine.execIllegalRxByte d s
  | .illegalRxError d => Sys2Proof.Machine.execIllegalRxError d s
  | .illegalTick d => Sys2Proof.Machine.execIllegalTick d s
  | .illegalStartSeq d => Sys2Proof.Machine.execIllegalStartSeq d s
  | .illegalStartStream d => Sys2Proof.Machine.execIllegalStartStream d s
  | .illegalCancel d => Sys2Proof.Machine.execIllegalCancel d s
  | .illegalReset d => Sys2Proof.Machine.execIllegalReset d s
  | .txSetProtocolFilter => Sys2Proof.Machine.execTxSetProtocolFilter s
  | .txSetRate4x2 => Sys2Proof.Machine.execTxSetRate4x2 s
  | .txSetRate2x1 => Sys2Proof.Machine.execTxSetRate2x1 s
  | .txEnableFixOutput => Sys2Proof.Machine.execTxEnableFixOutput s
  | .txPollRate => Sys2Proof.Machine.execTxPollRate s
  | .txPollFixConfig => Sys2Proof.Machine.execTxPollFixConfig s
  | .rxFixRecord p => Sys2Proof.Machine.execRxFixRecord p s
  | .rxRateConfig p => Sys2Proof.Machine.execRxRateConfig p s
  | .rxMsgEnableConfig p => Sys2Proof.Machine.execRxMsgEnableConfig p s
  | .rxAck p => Sys2Proof.Machine.execRxAck p s
  | .rxNack p => Sys2Proof.Machine.execRxNack p s
  | .rxUnrecognized cls id p => Sys2Proof.Machine.execRxUnrecognized cls id p s
  | .rxOverlongFrame cls id len => Sys2Proof.Machine.execRxOverlongFrame cls id len s

end Sys2Proof.Machine
end

