-- ==== Sys2Proof/Machine/Fetch.lean ====
section
/-! DEFINITION. Where the next instruction comes from. The block fetches no program (20_memory.md R73): it takes one
input event word per step (30_encoding.md R95), in the order the environment delivers them (entries 2 and 14). -/

namespace Sys2Proof.Machine

/-- Take the oldest delivered event word. -/
def State.fetch (s : State) : Option (Instr × State) :=
  match s.inbox with
  | [] => none
  | w :: rest => some (decodeWord w, { s with inbox := rest })

/-- The environment delivers event words after those already delivered (70_reset_and_hazards.md R304). -/
def State.deliver (words : List U16) (s : State) : State := { s with inbox := s.inbox ++ words }

/-- The step of the startup sequence that sends a command (44_sequencer.md R210). -/
def commandStep : Command → SeqStep
  | .setProtocolFilter => .setProtocolFilter
  | .setRate4x2 => .setRate
  | .setRate2x1 => .setRate
  | .enableFixOutput => .enableFixOutput
  | .pollRate => .pollRate
  | .pollFixConfig => .pollFixConfig

/-- The preset under which a command is sent (41_codec_encode.md R127). -/
def commandPreset : Command → Preset
  | .setProtocolFilter => .r4x2
  | .setRate4x2 => .r4x2
  | .setRate2x1 => .r2x1
  | .enableFixOutput => .r4x2
  | .pollRate => .r4x2
  | .pollFixConfig => .r4x2

/-- The state whose next step sends the command `c`: a startup run waits in `c`'s step, and the last byte of a Nack of
that step arrives, so that the step sends `c` again (44_sequencer.md R220; entry 20). -/
def State.placeCommand (c : Command) (s : State) : State :=
  let key := stepKey (commandStep c)
  let nack := rawFrame 0x05 0x00 [key.1, key.2]
  let s1 := s.loadFrame 0x05 0x00 [key.1, key.2] nack.checksumA
  { s1 with
    mode := .startup
    seq := { s1.seq with
      state := .await, step := commandStep c, preset := commandPreset c, verify := true, retries := 0, wait := 0 }
    inbox := rxByteWord nack.checksumB :: s1.inbox }

/-- The state whose next step completes the inbound message `bytes`: the framer holds all of it but its last byte,
which is the next event (entry 2). -/
def State.placeInbound (bytes : List Byte) (s : State) : State :=
  match bytes with
  | _ :: _ :: cls :: id :: lo :: hi :: rest =>
    let len := (lengthField lo hi).toNat
    if s.par.maxPayload < len then
      let s1 := s.loadEnvelope cls id lo
      { s1 with inbox := rxByteWord hi :: s1.inbox }
    else
      match rest.drop len with
      | a :: b :: _ =>
        let s1 := s.loadFrame cls id (rest.take len) a
        { s1 with inbox := rxByteWord b :: s1.inbox }
      | _ => s
  | _ => s

/-- The state whose next step runs the wire message `bytes`, read as the opcode table reads it (entry 11). -/
def State.placeMessage (bytes : List Byte) (s : State) : State :=
  match decodeOutbound s.par bytes with
  | .ok c => s.placeCommand c
  | .error _ => s.placeInbound bytes

end Sys2Proof.Machine
end

