-- ==== Sys2Proof/Machine/Step.lean ====
section
/-! DEFINITION. One step (00_scope.md R6): take the next input event and run it. -/

namespace Sys2Proof.Machine

/-- One step. With no event delivered the block waits, and nothing changes (entry 3). -/
def step (s : State) : Host.Outcome State Fault Refusal :=
  match s.fetch with
  | none => .next s
  | some (i, s') => exec i s'

/-- `s` with an instruction placed so that the very next step runs it. An event word goes to the front of the delivered
words. A wire message is placed as everything but its last byte, which is the next event (entries 2, 11 and 20). -/
def State.withFetchWord (s : State) (nbits w : Nat) : State :=
  if nbits ≤ 16 then { s with inbox := BitVec.ofNat 16 w :: s.inbox }
  else s.placeMessage (wireBytes s.par w)

end Sys2Proof.Machine
end

