-- ==== Sys2Proof/Machine/Scaler.lean ====
section
/-! DEFINITION. The fixed-point scaler (42_codec_decode.md R170 to R172): exact, total, and applied to no stored value. -/

namespace Sys2Proof.Machine

/-- The scaled fields of a FixRecord (R170). The four flag sets are not scaled. -/
inductive FixField where
  | iTOW | year | month | day | hour | min | sec | tAcc | nano | fixType | numSV
  | lon | lat | height | hMSL | hAcc | vAcc | velN | velE | velD | gSpeed
  | headMot | sAcc | headAcc | pDOP | headVeh | magDec | magAcc
  deriving DecidableEq, Repr

/-- The base units of R170. -/
inductive BaseUnit where
  | second
  | degree
  | metre
  | metrePerSecond
  /-- No unit: a ratio (`pDOP`). -/
  | ratio
  /-- The count or calendar unit itself. -/
  | itself
  deriving DecidableEq, Repr

/-- The exact value `num / 10^digits` in a base unit: `raw * 10^e` with `digits = -e` (R171). -/
structure Scaled where
  num : Int
  digits : Nat
  unit : BaseUnit
  deriving DecidableEq, Repr

/-- The exact rational (R170). -/
def Scaled.value (v : Scaled) : Rat := (v.num : Rat) / (10 ^ v.digits : Nat)

/-- The exponent `-e` of a field (R170). -/
def FixField.digits : FixField → Nat
  | .iTOW => 3
  | .tAcc | .nano => 9
  | .lon | .lat => 7
  | .height | .hMSL | .hAcc | .vAcc => 3
  | .velN | .velE | .velD | .gSpeed => 3
  | .sAcc => 3
  | .headMot | .headVeh => 5
  | .headAcc => 5
  | .pDOP => 2
  | .magDec | .magAcc => 2
  | .year | .month | .day | .hour | .min | .sec | .numSV | .fixType => 0

/-- The base unit of a field (R170). -/
def FixField.unit : FixField → BaseUnit
  | .iTOW => .second
  | .tAcc | .nano => .second
  | .lon | .lat => .degree
  | .height | .hMSL | .hAcc | .vAcc => .metre
  | .velN | .velE | .velD | .gSpeed => .metrePerSecond
  | .sAcc => .metrePerSecond
  | .headMot | .headVeh => .degree
  | .headAcc => .degree
  | .pDOP => .ratio
  | .magDec | .magAcc => .degree
  | .year | .month | .day | .hour | .min | .sec | .numSV | .fixType => .itself

/-- `scale(field, raw)` (R170). -/
def scale (f : FixField) (raw : Int) : Scaled where
  num := raw
  digits := f.digits
  unit := f.unit

/-- The integer of a field as decoded, signed or unsigned as R144 says (R170). -/
def FixRecord.raw (r : FixRecord) : FixField → Int
  | .iTOW => r.iTOW.toNat
  | .year => r.year.toNat
  | .month => r.month.toNat
  | .day => r.day.toNat
  | .hour => r.hour.toNat
  | .min => r.min.toNat
  | .sec => r.sec.toNat
  | .tAcc => r.tAcc.toNat
  | .nano => r.nano
  | .fixType => r.fixType.toNat
  | .numSV => r.numSV.toNat
  | .lon => r.lon
  | .lat => r.lat
  | .height => r.height
  | .hMSL => r.hMSL
  | .hAcc => r.hAcc.toNat
  | .vAcc => r.vAcc.toNat
  | .velN => r.velN
  | .velE => r.velE
  | .velD => r.velD
  | .gSpeed => r.gSpeed
  | .headMot => r.headMot
  | .sAcc => r.sAcc.toNat
  | .headAcc => r.headAcc.toNat
  | .pDOP => r.pDOP.toNat
  | .headVeh => r.headVeh
  | .magDec => r.magDec
  | .magAcc => r.magAcc.toNat

/-- The physical value of a field of a record (R170). -/
def FixRecord.scaled (r : FixRecord) (f : FixField) : Scaled := scale f (r.raw f)

end Sys2Proof.Machine
end

