-- ==== Sys2Proof/Safety.lean ====
section
/-! DEFINITION. The terms statements use: runs, the invariants of the state, the results of a run, and what an event may
emit. -/

namespace Sys2Proof.Machine

/-! ### Runs -/

/-- A run (70_reset_and_hazards.md R305): the steps of a finite list of event words, one after the other. It ends early
only where a step stops. -/
def runEvents : List U16 → State → Host.Outcome State Fault Refusal
  | [], s => .next s
  | w :: ws, s =>
    match exec (decodeWord w) s with
    | .next t => runEvents ws t
    | .fault r => .fault r
    | .refused r => .refused r

/-- The event word TICK (30_encoding.md R95). -/
def tickWord : U16 := 0x3000

/-- The event word RESET (30_encoding.md R95). -/
def resetWord : U16 := 0x7000

/-- Among the words of a run from a state none with START_SEQ's operation arrives outside STARTUP, where it could begin
another run (44_sequencer.md R213). -/
def noNewRun : List U16 → State → Prop
  | [], _ => True
  | w :: ws, s =>
    (s.mode ≠ .startup → w >>> 12 ≠ (0x4 : U16)) ∧ ∀ t, exec (decodeWord w) s = .next t → noNewRun ws t

/-- How many of the words are TICK. -/
def tickCount (ws : List U16) : Nat := ws.countP (· == tickWord)

/-- An output event that reports a valid frame. -/
def OutEvent.isFrameOk : OutEvent → Bool
  | .frameOk _ => true
  | _ => false

/-- An output event that reports a checksum error. -/
def OutEvent.isChecksumError : OutEvent → Bool
  | .error (.checksum _ _) => true
  | _ => false

/-- An output event that sends a frame. -/
def OutEvent.isTxFrame : OutEvent → Bool
  | .txFrame _ => true
  | _ => false

/-- An output event that publishes a record. -/
def OutEvent.isFixPublish : OutEvent → Bool
  | .fixPublish _ _ => true
  | _ => false

/-- No two adjacent bytes are the sync pattern (43_framer.md R193). -/
def noSyncPair : List Byte → Bool
  | a :: b :: rest => !(a == sync1 && b == sync2) && noSyncPair (b :: rest)
  | _ => true

/-! ### Terms of the statements -/

/-- `rx_idle` after a received byte (45_stream.md R254). -/
def State.rxIdleAfterByte (s : State) : U32 := if s.mode = .stream then 0 else s.stream.rxIdle

/-- The inbound messages of the opcode table with the class, the id, the payload and the message of each
(42_codec_decode.md R143, R160, R162 to R165). -/
def inboundMessage (par : Params) : Instr → Option (Byte × Byte × List Byte × DecodedMessage)
  | .rxFixRecord p => some (0x01, 0x07, p, .fixRecord (decodeFix p))
  | .rxRateConfig p => some (0x06, 0x08, p, .rateConfig (decodeRate p))
  | .rxMsgEnableConfig p => some (0x06, 0x01, p, .msgEnableConfig (decodeMsg par p))
  | .rxAck p => some (0x05, 0x01, p, .ack (decodeEcho p))
  | .rxNack p => some (0x05, 0x00, p, .nack (decodeEcho p))
  | .rxUnrecognized c i p => some (c, i, p, .unrecognized c i)
  | _ => none

/-- What receiving a whole valid frame leaves, whatever the mode does with its message (43_framer.md R181 to R188):
the framer is back in SEEKING with an empty window and the frame's registers as the frame left them, the frame and its
message are recorded and counted, and the rest of the state but the sequencer, the stream, the mode, the sticky bits
and the output is as before. -/
structure State.Received (s t : State) (c i : Byte) (p : List Byte) (m : DecodedMessage) : Prop where
  fs : t.framer.fs = .seeking
  fIdx : t.framer.fIdx = 0
  winValid : t.framer.winValid = false
  winByte : t.framer.winByte = 0xB5
  fClass : t.framer.fClass = c
  fId : t.framer.fId = i
  fLen : t.framer.fLen = BitVec.ofNat 16 p.length
  fPay : ∀ k, t.framer.fPay.read? k = if k < p.length then p[k]? else s.framer.fPay.read? k
  run : (t.framer.runA, t.framer.runB) =
    compute (c :: i :: BitVec.ofNat 8 (p.length % 256) :: BitVec.ofNat 8 (p.length / 256) :: p)
  fCka : t.framer.fCka = t.framer.runA
  lastFrame : t.lastFrame = some
    { cls := c, id := i, length := BitVec.ofNat 16 p.length, payload := p,
      checksumA := t.framer.runA, checksumB := t.framer.runB }
  lastMsg : t.lastMsg = some m
  framesOk : t.cnt.framesOk = s.cnt.framesOk + 1
  unrec : t.cnt.unrec = if m = .unrecognized c i then s.cnt.unrec + 1 else s.cnt.unrec
  otherCounters : t.cnt.ckErr = s.cnt.ckErr ∧ t.cnt.lenErr = s.cnt.lenErr ∧ t.cnt.abort = s.cnt.abort ∧
    t.cnt.rxErr = s.cnt.rxErr ∧ t.cnt.illegal = s.cnt.illegal
  ours : t.par = s.par ∧ t.draws = s.draws ∧ t.inbox = s.inbox

/-- The sum of the bytes (40_checksum.md R110). -/
def byteSum : List Byte → Nat
  | [] => 0
  | b :: bs => b.toNat + byteSum bs

/-- The sum over k of `(n - k) * b_k` for `n` bytes indexed from 0 (40_checksum.md R110). -/
def weightedSum : List Byte → Nat
  | [] => 0
  | b :: bs => (bs.length + 1) * b.toNat + weightedSum bs

/-- The bytes of an `n`-byte little-endian field (20_memory.md R60). -/
def littleEndian : Nat → Int → List Byte
  | 0, _ => []
  | n + 1, v => BitVec.ofInt 8 v :: littleEndian n (v / 256)

/-- The 92 payload bytes of a FixRecord, by the layout of 42_codec_decode.md R144; `rsv` are its five reserved bytes. -/
def fixPayload (r : FixRecord) (rsv : Vector Byte 5) : List Byte :=
  List.flatten
    [littleEndian 4 r.iTOW.toNat, littleEndian 2 r.year.toNat,
     [r.month, r.day, r.hour, r.min, r.sec, r.valid],
     littleEndian 4 r.tAcc.toNat, littleEndian 4 r.nano,
     [r.fixType, r.flags, r.flags2, r.numSV],
     littleEndian 4 r.lon, littleEndian 4 r.lat, littleEndian 4 r.height, littleEndian 4 r.hMSL,
     littleEndian 4 r.hAcc.toNat, littleEndian 4 r.vAcc.toNat,
     littleEndian 4 r.velN, littleEndian 4 r.velE, littleEndian 4 r.velD, littleEndian 4 r.gSpeed,
     littleEndian 4 r.headMot, littleEndian 4 r.sAcc.toNat, littleEndian 4 r.headAcc.toNat,
     littleEndian 2 r.pDOP.toNat, [r.flags3], rsv.toList,
     littleEndian 4 r.headVeh, littleEndian 2 r.magDec, littleEndian 2 r.magAcc.toNat]

/-- An integer a 2-byte two's-complement field can hold (30_encoding.md R85). -/
abbrev fitsSigned16 (v : Int) : Prop := -32768 ≤ v ∧ v ≤ 32767

/-- An integer a 4-byte two's-complement field can hold (30_encoding.md R85). -/
abbrev fitsSigned32 (v : Int) : Prop := -2147483648 ≤ v ∧ v ≤ 2147483647

/-- The signed fields of a FixRecord are integers its layout can hold (42_codec_decode.md R144). -/
abbrev FixRecord.inRange (r : FixRecord) : Prop :=
  fitsSigned32 r.nano ∧ fitsSigned32 r.lon ∧ fitsSigned32 r.lat ∧ fitsSigned32 r.height ∧ fitsSigned32 r.hMSL ∧
  fitsSigned32 r.velN ∧ fitsSigned32 r.velE ∧ fitsSigned32 r.velD ∧ fitsSigned32 r.gSpeed ∧
  fitsSigned32 r.headMot ∧ fitsSigned32 r.headVeh ∧ fitsSigned16 r.magDec

/-- The event words that 30_encoding.md R96 refuses: op 0x0 or 0x8 to 0xF, or a 1 in a data bit R95 requires to be 0. -/
abbrev wordRefused (w : U16) : Prop :=
  w >>> 12 = 0x0 ∨ (0x8 : U16) ≤ w >>> 12 ∨
  (w >>> 12 = 0x1 ∧ w &&& 0x0F00 ≠ 0) ∨
  (w >>> 12 = 0x4 ∧ w &&& 0x0FFC ≠ 0) ∨
  ((w >>> 12 = 0x2 ∨ w >>> 12 = 0x3 ∨ w >>> 12 = 0x5 ∨ w >>> 12 = 0x6 ∨ w >>> 12 = 0x7) ∧ w &&& 0x0FFF ≠ 0)

/-- The legality of an input event (60_exceptions.md R279): which events run their rule, by the state's mode. A wire
message is no input event and is never refused. -/
def State.legal (s : State) : Instr → Bool
  | .rxByte _ => true
  | .rxError => true
  | .tick => true
  | .startSeq _ _ => s.mode == .idle || s.mode == .stopped
  | .startStream =>
    (s.mode == .idle || s.mode == .stopped) && (s.seq.state == .notRun || s.seq.state == .done)
  | .cancel => true
  | .reset => true
  | .illegalOp0 _ => false
  | .illegalOpHigh _ => false
  | .illegalRxByte _ => false
  | .illegalRxError _ => false
  | .illegalTick _ => false
  | .illegalStartSeq _ => false
  | .illegalStartStream _ => false
  | .illegalCancel _ => false
  | .illegalReset _ => false
  | .txSetProtocolFilter => true
  | .txSetRate4x2 => true
  | .txSetRate2x1 => true
  | .txEnableFixOutput => true
  | .txPollRate => true
  | .txPollFixConfig => true
  | .rxFixRecord _ => true
  | .rxRateConfig _ => true
  | .rxMsgEnableConfig _ => true
  | .rxAck _ => true
  | .rxNack _ => true
  | .rxUnrecognized _ _ _ => true
  | .rxOverlongFrame _ _ _ => true

/-- The state after a refused event (60_exceptions.md R278), written out. -/
def State.afterRefusal (w : U16) (s : State) : State :=
  { s with
    cnt.illegal := s.cnt.illegal + 1
    errSticky := s.errSticky ||| 0x0200
    out := s.out ++ [.error (.illegalEvent w)] }

/-- `err_sticky` bit of a step's failure reason: bit 4 or bit 5 (60_exceptions.md R270). -/
def reasonBit : FailReason → U16
  | .ackTimeout => 0x0010
  | .nackReceived => 0x0020

/-- The state after a failed step that is tried again (44_sequencer.md R220, R212), written out. -/
def State.afterRetry (reason : FailReason) (s : State) : State :=
  { s with
    seq := { s.seq with
      failReason := some reason, retries := 1, wait := 0,
      rbRate := if s.seq.step = .pollRate then none else s.seq.rbRate,
      rbMsg := if s.seq.step = .pollFixConfig then none else s.seq.rbMsg }
    errSticky := s.errSticky ||| reasonBit reason
    out := s.out ++
      [.seqRetry s.seq.step reason 1, .txFrame (commandFrame s.par (stepCommand s.seq.preset s.seq.step))] }

/-- The state after a failed step whose retry is used up (44_sequencer.md R220, R222), written out. -/
def State.afterFailure (reason : FailReason) (s : State) : State :=
  { s with
    mode := .idle
    seq := { s.seq with failReason := some reason, state := .failed, failStep := some s.seq.step }
    errSticky := s.errSticky ||| reasonBit reason ||| 0x0040
    out := s.out ++ [.seqFailed s.seq.step reason] }

/-- The state after a failed step (44_sequencer.md R219, R220). -/
def State.afterStepFailed (reason : FailReason) (s : State) : State :=
  if s.seq.retries = 0 then s.afterRetry reason else s.afterFailure reason

/-- What a message handed off in `s` does beyond what `State.Received` says: the registers of the sequencer and the
stream, the mode and the sticky bits are those of `u`, and the output after FRAME_OK and MSG is that of `u`. -/
structure State.Delivered (s u t : State) (c i : Byte) (p : List Byte) (m : DecodedMessage) : Prop where
  received : s.Received t c i p m
  mode : t.mode = u.mode
  seq : t.seq = u.seq
  stream : t.stream = u.stream
  errSticky : t.errSticky = u.errSticky
  out : ∃ o, u.out = s.out ++ o ∧ t.out = s.out ++ [.frameOk (rawFrame c i p), .msg m] ++ o

/-! ### Results -/

/-- A startup run is finished (R305). -/
def State.startupFinished (s : State) : Bool :=
  match s.seq.state with
  | .notRun => false
  | .await => false
  | .done => true
  | .failed => true
  | .cancelled => true

/-- A stream is finished (R305). -/
def State.streamFinished (s : State) : Bool :=
  match s.mode with
  | .idle => false
  | .startup => false
  | .stream => false
  | .stopped => true

/-- The result of a startup run (44_sequencer.md R228). -/
inductive StartupResult where
  /-- The source's `Ok(())`. -/
  | ok
  /-- The source's `Err(ConfigurationFailed{step, reason})`. -/
  | configurationFailed (step : Option SeqStep) (reason : Option FailReason)
  /-- The third outcome, which the source's result type lacks. -/
  | cancelled
  deriving DecidableEq, Repr

/-- The result read from `seq_state` (44_sequencer.md R228); none while no run has ended. -/
def State.startupResult (s : State) : Option StartupResult :=
  match s.seq.state with
  | .notRun => none
  | .await => none
  | .done => some .ok
  | .failed => some (.configurationFailed s.seq.failStep s.seq.failReason)
  | .cancelled => some .cancelled

/-! ### Invariants

Each holds at power-on and is kept by every step. -/

/-- The framer's registers are within their ranges (10_state.md R23, R24; 43_framer.md R184, R185), and the buffer's
cells are canonical and inside the buffer. -/
structure State.FramerInv (s : State) : Prop where
  payCanonical : s.framer.fPay.wf
  payInside : ∀ c ∈ s.framer.fPay, c.1 < s.par.maxPayload
  seeking : s.framer.fs = .seeking → s.framer.fIdx = 0
  envelope : s.framer.fs = .envelope → s.framer.fIdx.toNat ≤ 3
  payload : s.framer.fs = .payload → s.framer.fIdx < s.framer.fLen ∧ s.framer.fLen.toNat ≤ s.par.maxPayload
  checksum : s.framer.fs = .checksum → s.framer.fIdx.toNat ≤ 1 ∧ s.framer.fLen.toNat ≤ s.par.maxPayload
  window : s.framer.fs ≠ .seeking → s.framer.winValid = false ∧ s.framer.winByte = sync1

/-- The bytes of the frame in progress that the checksum covers and that have arrived (40_checksum.md R112). -/
def State.bytesSoFar (s : State) : List Byte :=
  match s.framer.fs with
  | .seeking => []
  | .envelope => [s.framer.fClass, s.framer.fId, lowByte s.framer.fLen].take s.framer.fIdx.toNat
  | .payload => frameBody s.framer.fClass s.framer.fId s.framer.fLen (s.payload s.framer.fIdx.toNat)
  | .checksum => frameBody s.framer.fClass s.framer.fId s.framer.fLen (s.payload s.framer.fLen.toNat)

/-- How many bytes of `f_pay` the frame in progress has written (43_framer.md R185). -/
def State.payloadArrived (s : State) : Nat :=
  match s.framer.fs with
  | .seeking => 0
  | .envelope => 0
  | .payload => s.framer.fIdx.toNat
  | .checksum => s.framer.fLen.toNat

/-- The running checksum is `compute` of the bytes that have arrived (40_checksum.md R112), and the frame in progress
has written every payload byte it will read (10_state.md R26). -/
structure State.ChecksumInv (s : State) : Prop where
  running : s.framer.fs ≠ .seeking → (s.framer.runA, s.framer.runB) = compute s.bytesSoFar
  lengthLow : s.framer.fs = .envelope → s.framer.fIdx = 3 → highByte s.framer.fLen = 0
  written : ∀ k < s.payloadArrived, (s.framer.fPay.read? k).isSome = true

/-- The sequencer's registers (10_state.md R32, R35 to R37; 44_sequencer.md R211, R222). -/
structure State.SequencerInv (s : State) : Prop where
  awaitIff : s.seq.state = .await ↔ s.mode = .startup
  retries : s.seq.retries ≤ retryLimit
  wait : s.seq.state = .await → s.seq.wait < s.par.ackTimeout
  failed : s.seq.state = .failed → s.seq.failStep = some s.seq.step ∧ s.seq.failReason.isSome = true
  notFailed : s.seq.state ≠ .failed → s.seq.failStep = none
  noPolls : s.seq.verify = false → s.seq.step ≠ .pollRate ∧ s.seq.step ≠ .pollFixConfig

/-- The stream's registers (10_state.md R40, R41; 45_stream.md R252, R256). -/
structure State.StreamInv (s : State) : Prop where
  idle : s.mode = .stream → s.stream.rxIdle < s.par.rxTimeout
  running : s.mode = .stream → s.stream.stopReason = none
  stopped : s.mode = .stopped → s.stream.stopReason.isSome = true
  confirmed : s.mode = .stream ∨ s.mode = .stopped → s.seq.state = .notRun ∨ s.seq.state = .done
  unpublished : s.stream.fixOut = none → s.stream.fixSeq = 0

/-- The last valid frame and its message (10_state.md R29, R30, R48). -/
structure State.RecordInv (s : State) : Prop where
  together : s.lastFrame.isSome = s.lastMsg.isSome
  valid : ∀ f ∈ s.lastFrame, validate f = true ∧ f.payload.length = f.length.toNat ∧
    s.lastMsg = some (decodePayload s.par f.cls f.id f.payload)

/-- The invariant of the block. -/
structure State.Inv (s : State) : Prop where
  par : s.par.wf = true
  framer : s.FramerInv
  checksum : s.ChecksumInv
  sequencer : s.SequencerInv
  stream : s.StreamInv
  record : s.RecordInv
  sticky : s.errSticky &&& 0xF801 = 0

/-! ### What a step may emit -/

/-- A message that answers the command of the current step: an Ack or a Nack with its key (44_sequencer.md R214). -/
def State.answered (s : State) : DecodedMessage → Bool
  | .ack a => (a.echoedClass, a.echoedId) == stepKey s.seq.step
  | .nack a => (a.echoedClass, a.echoedId) == stepKey s.seq.step
  | _ => false

/-- `[SEQ_WARNING]` of 60_exceptions.md R273: at most one, and only in the two poll steps. -/
inductive WarningOutput : SeqStep → List OutEvent → Prop where
  | nothing (step : SeqStep) : WarningOutput step []
  | rate (k : WarnKind) (b : Readback) : WarningOutput .pollRate [.seqWarning .pollRate k b]
  | msg (k : WarnKind) (b : Readback) : WarningOutput .pollFixConfig [.seqWarning .pollFixConfig k b]

/-- The output of 60_exceptions.md R273 after FRAME_OK and MSG, for a step from `s` whose frame's message is `m`. -/
inductive MessageOutput (s : State) (m : DecodedMessage) : List OutEvent → Prop where
  | outside (h : s.mode = .idle ∨ s.mode = .stopped) : MessageOutput s m []
  | notFix (h : s.mode = .stream) (hm : ∀ r, m ≠ .fixRecord r) : MessageOutput s m []
  | publish (h : s.mode = .stream) (r : FixRecord) (hm : m = .fixRecord r) :
    MessageOutput s m [.fixPublish r (s.stream.fixSeq + 1)]
  | unanswered (h : s.mode = .startup) (hm : s.answered m = false) : MessageOutput s m []
  | advance (h : s.mode = .startup) (a : AckEcho) (hm : m = .ack a) (ha : s.answered m = true) (n : SeqStep)
    (hn : nextStep s.seq.verify s.seq.step = some n) (w : List OutEvent) (hw : WarningOutput s.seq.step w) :
    MessageOutput s m
      (w ++ [.seqStepOk s.seq.step, .txFrame (commandFrame s.par (stepCommand s.seq.preset n))])
  | complete (h : s.mode = .startup) (a : AckEcho) (hm : m = .ack a) (ha : s.answered m = true)
    (hn : nextStep s.seq.verify s.seq.step = none) (w : List OutEvent) (hw : WarningOutput s.seq.step w) :
    MessageOutput s m (w ++ [.seqStepOk s.seq.step, .seqDone])
  | retry (h : s.mode = .startup) (a : AckEcho) (hm : m = .nack a) (ha : s.answered m = true)
    (hr : s.seq.retries = 0) :
    MessageOutput s m
      [.seqRetry s.seq.step .nackReceived 1, .txFrame (commandFrame s.par (stepCommand s.seq.preset s.seq.step))]
  | failed (h : s.mode = .startup) (a : AckEcho) (hm : m = .nack a) (ha : s.answered m = true)
    (hr : s.seq.retries ≠ 0) : MessageOutput s m [.seqFailed s.seq.step .nackReceived]

/-- The output lists of 60_exceptions.md R273: all that the step of an input event can emit from `s`. -/
inductive StepOutput (s : State) : Instr → List OutEvent → Prop where
  | validFrame (b : Byte) (f : RawFrame) (m : DecodedMessage) (o : List OutEvent) (h : MessageOutput s m o) :
    StepOutput s (.rxByte b) (.frameOk f :: .msg m :: o)
  | failedFrame (b : Byte) (received computed : Byte × Byte) :
    StepOutput s (.rxByte b) [.error (.checksum received computed)]
  | otherByte (b : Byte) : StepOutput s (.rxByte b) []
  | readFailed (h : s.mode ≠ .stream) : StepOutput s .rxError [.error (.transportError s.framer.fs)]
  | readFailedInStream (h : s.mode = .stream) :
    StepOutput s .rxError [.error (.transportError s.framer.fs), .streamStopped .transportError]
  | timeoutRetry (h : s.mode = .startup) (hr : s.seq.retries = 0) :
    StepOutput s .tick
      [.seqRetry s.seq.step .ackTimeout 1, .txFrame (commandFrame s.par (stepCommand s.seq.preset s.seq.step))]
  | timeoutFailed (h : s.mode = .startup) (hr : s.seq.retries ≠ 0) :
    StepOutput s .tick [.seqFailed s.seq.step .ackTimeout]
  | streamTimeout (h : s.mode = .stream) : StepOutput s .tick [.streamStopped .transportTimeout]
  | otherTick : StepOutput s .tick []
  | started (h : s.mode = .idle ∨ s.mode = .stopped) (p : Preset) (v : Bool) :
    StepOutput s (.startSeq p v) [.txFrame (commandFrame s.par .setProtocolFilter)]
  | streamStarted (h : s.mode = .idle ∨ s.mode = .stopped) : StepOutput s .startStream [.streamStarted]
  | sequenceCancelled (h : s.mode = .startup) : StepOutput s .cancel [.seqCancelled s.seq.step]
  | streamCancelled (h : s.mode = .stream) : StepOutput s .cancel [.streamStopped .cancelled]
  | nothingCancelled (h : s.mode = .idle ∨ s.mode = .stopped) : StepOutput s .cancel []
  | reset : StepOutput s .reset []
  | refused (i : Instr) (w : U16) (hw : encode s.par i = .event w) (h : s.legal i = false) :
    StepOutput s i [.error (.illegalEvent w)]

end Sys2Proof.Machine
end

