-- ==== Sys2Proof/Certificates/Slice0/Obligations.lean ====
section
/-! DEFINITION. The statements for the provers. Each docstring names the rules it formalises; OBLIGATIONS.json says
which it states whole. A statement that rests on a convention of the model names its entry. -/

open Sys2Proof Sys2Proof.Machine

/-! ### Steps and runs -/

/-- A step takes the oldest delivered event word and runs the instruction it decodes to (30_encoding.md R95), which is
always a well-formed one. With no word delivered a step changes nothing. Two of this are the model's choice and no rule
of the spec: that the words wait in `inbox` (entry 2), and that a step without one waits (entry 3). -/
def Obligations.StepRunsDecodedWord : Prop :=
  (∀ (s : State) (w : U16) (rest : List U16), s.inbox = w :: rest →
    decode s.par (.event w) = .ok (decodeWord w) ∧ (decodeWord w).wellFormed s.par = true ∧
    step s = exec (decodeWord w) { s with inbox := rest }) ∧
  (∀ s : State, s.inbox = [] → step s = .next s)

/-- A run of the machine takes the delivered words one after the other (70_reset_and_hazards.md R305): as many steps as
there are words give what `runEvents` gives, whatever words are delivered behind them. -/
def Obligations.RunTakesWordsInOrder : Prop :=
  ∀ (ws more : List U16) (s : State), s.inbox = ws ++ more →
    Host.Core.run Sys2Proof.core ws.length s = runEvents ws { s with inbox := more }

/-- Decoding an encoded instruction gives it back, for every instruction of the table and every operand its row admits
(30_encoding.md R80, R91, R95, R96). -/
def Obligations.DecodeEncodeRoundTrip : Prop :=
  ∀ (par : Params) (i : Instr), par.wf = true → i.wellFormed par = true → decode par (encode par i) = .ok i

/-- Every event word is the encoding of the instruction it decodes to: each word has one meaning (R95, R96). -/
def Obligations.EncodeDecodeWord : Prop :=
  ∀ (par : Params) (w : U16), encode par (decodeWord w) = .event w

/-- The legal event words, read from the table of 30_encoding.md R95, and every other word: one R96 refuses. -/
def Obligations.EventWordTable : Prop :=
  (∀ b : Byte, decodeWord (0x1000 ||| b.zeroExtend 16) = .rxByte b) ∧
  decodeWord 0x2000 = .rxError ∧ decodeWord 0x3000 = .tick ∧
  decodeWord 0x4000 = .startSeq .r4x2 false ∧ decodeWord 0x4001 = .startSeq .r2x1 false ∧
  decodeWord 0x4002 = .startSeq .r4x2 true ∧ decodeWord 0x4003 = .startSeq .r2x1 true ∧
  decodeWord 0x5000 = .startStream ∧ decodeWord 0x6000 = .cancel ∧ decodeWord 0x7000 = .reset ∧
  decodeWord 0x10B5 = .rxByte 0xB5 ∧ decodeWord 0x11FF = .illegalRxByte 0x1FF ∧ decodeWord 0x0000 = .illegalOp0 0 ∧
  decodeWord 0xFFFF = .illegalOpHigh 0x7FFF

/-- The words R96 refuses are refused, whatever the state: nothing changes but `cnt_illegal`, bit 9 of `err_sticky` and
the reported word. No other word is refused for its bits. -/
def Obligations.RefusedWords : Prop :=
  ∀ (w : U16) (s : State),
    (wordRefused w → exec (decodeWord w) s = .next (s.afterRefusal w)) ∧
    (¬ wordRefused w → s.mode = .idle → s.seq.state = .notRun → s.legal (decodeWord w) = true)

/-- The nine refused classes of the table, each with the word it stands for (30_encoding.md R96, 60_exceptions.md
R278). That a class refuses its word for every operand, also for one its row does not describe (`illegalTick 0`), is the
model's choice (entry 16). -/
def Obligations.IllegalClassesRefuse : Prop :=
  ∀ (s : State) (d : BitVec 12) (l : BitVec 15),
    exec (.illegalOp0 d) s = .next (s.afterRefusal (d.zeroExtend 16)) ∧
    exec (.illegalOpHigh l) s = .next (s.afterRefusal (0x8000 ||| l.zeroExtend 16)) ∧
    exec (.illegalRxByte d) s = .next (s.afterRefusal (0x1000 ||| d.zeroExtend 16)) ∧
    exec (.illegalRxError d) s = .next (s.afterRefusal (0x2000 ||| d.zeroExtend 16)) ∧
    exec (.illegalTick d) s = .next (s.afterRefusal (0x3000 ||| d.zeroExtend 16)) ∧
    exec (.illegalStartSeq d) s = .next (s.afterRefusal (0x4000 ||| d.zeroExtend 16)) ∧
    exec (.illegalStartStream d) s = .next (s.afterRefusal (0x5000 ||| d.zeroExtend 16)) ∧
    exec (.illegalCancel d) s = .next (s.afterRefusal (0x6000 ||| d.zeroExtend 16)) ∧
    exec (.illegalReset d) s = .next (s.afterRefusal (0x7000 ||| d.zeroExtend 16))

/-- The legality table (60_exceptions.md R278, R279): an event that is not legal in the state is refused and does nothing
else; a legal one counts no refusal and does not set bit 9 of `err_sticky`; TICK and CANCEL have no effect in IDLE and
STOPPED. -/
def Obligations.LegalityTable : Prop :=
  ∀ (w : U16) (s t : State),
    (s.legal (decodeWord w) = false → exec (decodeWord w) s = .next (s.afterRefusal w)) ∧
    (s.legal (decodeWord w) = true → w ≠ resetWord → exec (decodeWord w) s = .next t →
      t.cnt.illegal = s.cnt.illegal ∧ t.sticky .illegalEvent = s.sticky .illegalEvent) ∧
    (s.mode = .idle ∨ s.mode = .stopped → exec .tick s = .next s ∧ exec .cancel s = .next s)

/-! ### Frames and checksums -/

/-- The layout of a frame (30_encoding.md R80, R89), and that its length field reads back as the payload's length
(R82). -/
def Obligations.FrameLayout : Prop :=
  ∀ (c i : Byte) (p : List Byte), p.length ≤ 65535 →
    let lo := BitVec.ofNat 8 (p.length % 256)
    let hi := BitVec.ofNat 8 (p.length / 256)
    let ck := compute (c :: i :: lo :: hi :: p)
    frame c i p = [0xB5, 0x62, c, i, lo, hi] ++ p ++ [ck.1, ck.2] ∧
    (frame c i p).length = p.length + 8 ∧ (lengthField lo hi).toNat = p.length

/-- `compute` (40_checksum.md R110): its loop, and the two sums it equals modulo 256, which the spec infers from the loop
("derived: from the pseudocode"). -/
def Obligations.ChecksumSums : Prop :=
  compute [] = (0x00, 0x00) ∧
  (∀ (bs : List Byte) (b : Byte), compute (bs ++ [b]) =
    ((compute bs).1 + b, (compute bs).2 + ((compute bs).1 + b))) ∧
  (∀ bs : List Byte, compute bs = (BitVec.ofNat 8 (byteSum bs), BitVec.ofNat 8 (weightedSum bs)))

/-- A change of the bytes goes unseen exactly when both its sums are 0 modulo 256: the spec's own inference
(40_checksum.md R115, "derived: from rule R110"). -/
def Obligations.ChecksumBlindSpot : Prop :=
  ∀ bs ds : List Byte, bs.length = ds.length →
    (compute (List.zipWith (· + ·) bs ds) = compute bs ↔ byteSum ds % 256 = 0 ∧ weightedSum ds % 256 = 0)

/-- `validate` (40_checksum.md R111): both bytes must match. -/
def Obligations.ValidateComparesBothBytes : Prop :=
  ∀ f : RawFrame, validate f = true ↔
    (compute (f.cls :: f.id :: f.length.extractLsb' 0 8 :: f.length.extractLsb' 8 8 :: f.payload)).1 = f.checksumA ∧
    (compute (f.cls :: f.id :: f.length.extractLsb' 0 8 :: f.length.extractLsb' 8 8 :: f.payload)).2 = f.checksumB

/-- The six command frames, byte for byte (30_encoding.md R91, 41_codec_encode.md R121 to R126), and that a step's
acknowledgement key is the class and id of the frame it sends, bytes 2 and 3 (R128, 44_sequencer.md R210). The
checksum bytes are the spec's own inference ("The checksums are derived by 40_checksum.md rule R110"), and the frames
rest on the passages of general knowledge that entry 13 follows. -/
def Obligations.CommandFrames : Prop :=
  ∀ par : Params,
    (∀ (preset : Preset) (n : SeqStep),
      (commandFrame par (stepCommand preset n))[2]? = some (stepKey n).1 ∧
      (commandFrame par (stepCommand preset n))[3]? = some (stepKey n).2) ∧
    stepKey .setProtocolFilter = (0x06, 0x00) ∧ stepKey .setRate = (0x06, 0x08) ∧
    stepKey .enableFixOutput = (0x06, 0x01) ∧ stepKey .pollRate = (0x06, 0x08) ∧
    stepKey .pollFixConfig = (0x06, 0x01) ∧
    commandFrame par .setProtocolFilter = frame 0x06 0x00 par.prtPayload.toList ∧
    (par.prtPayload = Config.defaultPrtPayload → commandFrame par .setProtocolFilter =
      [0xB5, 0x62, 0x06, 0x00, 0x14, 0x00, 0x00, 0x00, 0x00, 0x00, 0x84, 0x00, 0x00, 0x00,
       0x00, 0x00, 0x00, 0x00, 0x01, 0x00, 0x01, 0x00, 0x00, 0x00, 0x00, 0x00, 0xA0, 0x96]) ∧
    commandFrame par .setRate4x2 =
      [0xB5, 0x62, 0x06, 0x08, 0x06, 0x00, 0xFA, 0x00, 0x02, 0x00, 0x00, 0x00, 0x10, 0x98] ∧
    commandFrame par .setRate2x1 =
      [0xB5, 0x62, 0x06, 0x08, 0x06, 0x00, 0xF4, 0x01, 0x02, 0x00, 0x00, 0x00, 0x0B, 0x79] ∧
    commandFrame par .enableFixOutput = [0xB5, 0x62, 0x06, 0x01, 0x03, 0x00, 0x01, 0x07, 0x01, 0x13, 0x51] ∧
    commandFrame par .pollRate = [0xB5, 0x62, 0x06, 0x08, 0x00, 0x00, 0x0E, 0x30] ∧
    commandFrame par .pollFixConfig = [0xB5, 0x62, 0x06, 0x01, 0x02, 0x00, 0x01, 0x07, 0x11, 0x3A]

/-- The six outbound commands as instructions: each sends its frame (41_codec_encode.md R121 to R126) and starts the
wait, and a poll clears its read-back register (44_sequencer.md R212). That the row's meaning is this send is the model's
reading (entry 1). The checksum bytes are the spec's own inference (30_encoding.md R91: "The checksums are derived by
40_checksum.md rule R110"), and the payloads rest on the passages of general knowledge that entry 13 follows. -/
def Obligations.SendsAreCommands : Prop :=
  ∀ s : State,
    exec .txSetProtocolFilter s = .next { s with
      seq.wait := 0, out := s.out ++ [.txFrame (frame 0x06 0x00 s.par.prtPayload.toList)] } ∧
    exec .txSetRate4x2 s = .next { s with
      seq.wait := 0
      out := s.out ++ [.txFrame
        [0xB5, 0x62, 0x06, 0x08, 0x06, 0x00, 0xFA, 0x00, 0x02, 0x00, 0x00, 0x00, 0x10, 0x98]] } ∧
    exec .txSetRate2x1 s = .next { s with
      seq.wait := 0
      out := s.out ++ [.txFrame
        [0xB5, 0x62, 0x06, 0x08, 0x06, 0x00, 0xF4, 0x01, 0x02, 0x00, 0x00, 0x00, 0x0B, 0x79]] } ∧
    exec .txEnableFixOutput s = .next { s with
      seq.wait := 0
      out := s.out ++ [.txFrame [0xB5, 0x62, 0x06, 0x01, 0x03, 0x00, 0x01, 0x07, 0x01, 0x13, 0x51]] } ∧
    exec .txPollRate s = .next { s with
      seq.wait := 0, seq.rbRate := none
      out := s.out ++ [.txFrame [0xB5, 0x62, 0x06, 0x08, 0x00, 0x00, 0x0E, 0x30]] } ∧
    exec .txPollFixConfig s = .next { s with
      seq.wait := 0, seq.rbMsg := none
      out := s.out ++ [.txFrame [0xB5, 0x62, 0x06, 0x01, 0x02, 0x00, 0x01, 0x07, 0x11, 0x3A]] }

/-! ### The framer -/

/-- `seek(b)` (43_framer.md R181). The frame is whole: nothing else changes, but `rx_idle` in STREAM (45_stream.md
R254). -/
def Obligations.SeekByte : Prop :=
  ∀ (s : State) (b : Byte), s.framer.fs = .seeking →
    exec (.rxByte b) s = .next
      (if s.framer.winValid = true ∧ s.framer.winByte = 0xB5 ∧ b = 0x62 then
        { s with
          stream.rxIdle := s.rxIdleAfterByte
          framer := { s.framer with fs := .envelope, fIdx := 0, runA := 0, runB := 0, winValid := false } }
      else
        { s with
          stream.rxIdle := s.rxIdleAfterByte
          framer := { s.framer with winByte := b, winValid := true } })

/-- The class, id and length low bytes (43_framer.md R182, R183). -/
def Obligations.EnvelopeByte : Prop :=
  ∀ (s : State) (b : Byte), s.framer.fs = .envelope →
    let a := s.framer.runA + b
    (s.framer.fIdx = 0 → exec (.rxByte b) s = .next { s with
      stream.rxIdle := s.rxIdleAfterByte
      framer := { s.framer with fClass := b, fIdx := 1, runA := a, runB := s.framer.runB + a } }) ∧
    (s.framer.fIdx = 1 → exec (.rxByte b) s = .next { s with
      stream.rxIdle := s.rxIdleAfterByte
      framer := { s.framer with fId := b, fIdx := 2, runA := a, runB := s.framer.runB + a } }) ∧
    (s.framer.fIdx = 2 → exec (.rxByte b) s = .next { s with
      stream.rxIdle := s.rxIdleAfterByte
      framer := { s.framer with fLen := b.zeroExtend 16, fIdx := 3, runA := a, runB := s.framer.runB + a } })

/-- The length high byte and the length check (43_framer.md R184). -/
def Obligations.LengthHighByte : Prop :=
  ∀ (s : State) (b : Byte), s.framer.fs = .envelope → s.framer.fIdx = 3 →
    let len : U16 := s.framer.fLen ||| (b.zeroExtend 16 <<< 8)
    let a := s.framer.runA + b
    let f := { s.framer with fLen := len, runA := a, runB := s.framer.runB + a, fIdx := 0 }
    (s.par.maxPayload < len.toNat → exec (.rxByte b) s = .next { s with
      stream.rxIdle := s.rxIdleAfterByte
      framer := { f with fs := .seeking, winValid := false }
      cnt.lenErr := s.cnt.lenErr + 1
      errSticky := s.errSticky ||| 0x0002 }) ∧
    (len.toNat ≤ s.par.maxPayload → len = 0 → exec (.rxByte b) s = .next { s with
      stream.rxIdle := s.rxIdleAfterByte, framer := { f with fs := .checksum } }) ∧
    (len.toNat ≤ s.par.maxPayload → len ≠ 0 → exec (.rxByte b) s = .next { s with
      stream.rxIdle := s.rxIdleAfterByte, framer := { f with fs := .payload } })

/-- A payload byte (43_framer.md R185): the byte at `f_idx` is written, every other byte of the buffer reads as
before. -/
def Obligations.PayloadByte : Prop :=
  ∀ (s : State) (b : Byte), s.framer.fs = .payload → s.framer.fIdx < s.framer.fLen →
    s.framer.fLen.toNat ≤ s.par.maxPayload →
    let a := s.framer.runA + b
    let last := s.framer.fIdx + 1 = s.framer.fLen
    ∃ t : State, exec (.rxByte b) s = .next t ∧
      (∀ k, t.payByte k = if k = s.framer.fIdx.toNat then b else s.payByte k) ∧
      t = { s with
        stream.rxIdle := s.rxIdleAfterByte
        framer := { s.framer with
          fPay := t.framer.fPay, runA := a, runB := s.framer.runB + a,
          fs := if last then .checksum else .payload,
          fIdx := if last then 0 else s.framer.fIdx + 1 } }

/-- The first checksum byte (43_framer.md R186), and the second of a frame that fails its checksum (R187, R188): the
frame is dropped. -/
def Obligations.ChecksumBytes : Prop :=
  ∀ (s : State) (b : Byte), s.framer.fs = .checksum →
    (s.framer.fIdx = 0 → exec (.rxByte b) s = .next { s with
      stream.rxIdle := s.rxIdleAfterByte, framer := { s.framer with fCka := b, fIdx := 1 } }) ∧
    (s.framer.fIdx = 1 → s.framer.fLen.toNat ≤ s.par.maxPayload →
      ¬ (s.framer.fCka = s.framer.runA ∧ b = s.framer.runB) →
      exec (.rxByte b) s = .next { s with
        stream.rxIdle := s.rxIdleAfterByte
        framer := { s.framer with fs := .seeking, fIdx := 0, winValid := false }
        cnt.ckErr := s.cnt.ckErr + 1
        errSticky := s.errSticky ||| 0x0008
        out := s.out ++ [.error (.checksum (s.framer.fCka, b) (s.framer.runA, s.framer.runB))] })

/-- The second checksum byte of a frame that validates (43_framer.md R187) is the hand-off of the message that the
frame's class, id and payload bytes stand for. -/
def Obligations.LastByteHandsOffMessage : Prop :=
  ∀ s : State, s.FramerInv → s.ChecksumInv → s.framer.fs = .checksum → s.framer.fIdx = 1 →
    s.framer.fCka = s.framer.runA →
    exec (.rxByte s.framer.runB) s =
      exec (classify s.framer.fClass s.framer.fId (s.payload s.framer.fLen.toNat)) s

/-- The bytes of a whole valid frame, received from SEEKING one RX_BYTE at a time, are the inbound message of their
class, id and payload (43_framer.md R181 to R187, 30_encoding.md R98), whatever the bytes of the payload are
(43_framer.md R191, the spec's own inference). That a message is an instruction of its own is the model's reading
(entry 1). -/
def Obligations.WholeFrameIsMessage : Prop :=
  ∀ (s : State) (c i : Byte) (p : List Byte), s.par.wf = true → s.framer.fs = .seeking →
    p.length ≤ s.par.maxPayload →
    runEvents (rxFrameWords c i p) s = exec (classify c i p) s

/-- An envelope whose length exceeds `P_MAX_PAYLOAD` (43_framer.md R184): its six bytes, received from SEEKING, are the
over-long message, which is dropped and counted and leaves the framer in SEEKING with an empty window. That the
message is an instruction of its own is the model's reading (entries 1 and 18). -/
def Obligations.OverlongEnvelopeIsDropped : Prop :=
  ∀ (s : State) (c i : Byte) (len : U16),
    (s.framer.fs = .seeking → s.par.maxPayload < len.toNat →
      runEvents (rxBytesWords [0xB5, 0x62, c, i, len.extractLsb' 0 8, len.extractLsb' 8 8]) s =
        exec (.rxOverlongFrame c i len) s) ∧
    (s.par.maxPayload < len.toNat →
      let ck := compute [c, i, len.extractLsb' 0 8, len.extractLsb' 8 8]
      exec (.rxOverlongFrame c i len) s = .next { s with
        stream.rxIdle := s.rxIdleAfterByte
        framer := { s.framer with
          fs := .seeking, fIdx := 0, winValid := false, winByte := 0xB5,
          fClass := c, fId := i, fLen := len, runA := ck.1, runB := ck.2 }
        cnt.lenErr := s.cnt.lenErr + 1
        errSticky := s.errSticky ||| 0x0002 })

/-- Resynchronization: noise without a sync pair, then a valid frame, give exactly one FRAME_OK, for that frame, and end
in SEEKING. The spec's own inference (43_framer.md R193, "derived: from rules R181, R187 and R188"). -/
def Obligations.Resynchronization : Prop :=
  ∀ (s : State) (noise : List Byte) (c i : Byte) (p : List Byte), s.par.wf = true →
    s.framer.fs = .seeking → s.framer.winValid = false → p.length ≤ s.par.maxPayload →
    noSyncPair (noise ++ [0xB5]) = true →
    ∃ (t : State) (o : List OutEvent),
      runEvents (rxBytesWords noise ++ rxFrameWords c i p) s = .next t ∧ t.framer.fs = .seeking ∧
      t.out = s.out ++ o ∧ o.filter OutEvent.isFrameOk = [.frameOk (rawFrame c i p)]

/-- Corruption recovery: a valid frame, a frame with a wrong checksum, a valid frame give exactly two FRAME_OK events, for
the first and the third, and one checksum error. The spec's own inference (43_framer.md R194, "derived: from rules R184,
R187 and R188"). -/
def Obligations.CorruptionRecovery : Prop :=
  ∀ (s : State) (c1 i1 c2 i2 c3 i3 a b : Byte) (p1 p2 p3 : List Byte), s.par.wf = true →
    s.framer.fs = .seeking → p1.length ≤ s.par.maxPayload → p2.length ≤ s.par.maxPayload →
    p3.length ≤ s.par.maxPayload →
    let body := frameBody c2 i2 (payloadLength p2) p2
    compute body ≠ (a, b) →
    ∃ (t : State) (o : List OutEvent),
      runEvents (rxFrameWords c1 i1 p1 ++ rxBytesWords ([0xB5, 0x62] ++ body ++ [a, b]) ++ rxFrameWords c3 i3 p3) s
        = .next t ∧
      t.framer.fs = .seeking ∧ t.out = s.out ++ o ∧
      o.filter OutEvent.isFrameOk = [.frameOk (rawFrame c1 i1 p1), .frameOk (rawFrame c3 i3 p3)] ∧
      o.filter OutEvent.isChecksumError = [.error (.checksum (a, b) (compute body))]

/-- Noise with a sync pair can hide a valid frame: the example of 70_reset_and_hazards.md R312, which is the spec's own
inference ("derived: from 43_framer.md rules R181 to R188"). -/
def Obligations.NoiseCanHideFrame : Prop :=
  ∀ s : State, s.par.wf = true → s.framer.fs = .seeking →
    ∃ t : State,
      runEvents (rxBytesWords
        [0xB5, 0x62, 0x00, 0x00, 0x04, 0x00, 0xB5, 0x62, 0x05, 0x01, 0x02, 0x00, 0x06, 0x00, 0x0E, 0x37]) s
        = .next t ∧
      t.framer.fs = .seeking ∧ ∃ ck, t.out = s.out ++ [.error (.checksum (0x02, 0x00) ck)]

/-- RX_ERROR (43_framer.md R189, 44_sequencer.md R225, 45_stream.md R256): the frame in progress is aborted, the failure
is reported, and in STREAM the stream stops. The sequencer is not told. -/
def Obligations.TransportError : Prop :=
  ∀ s : State,
    exec .rxError s = .next { s with
      framer := { s.framer with fs := .seeking, fIdx := 0, winValid := false }
      cnt := { s.cnt with
        rxErr := s.cnt.rxErr + 1
        abort := if s.framer.fs = .seeking then s.cnt.abort else s.cnt.abort + 1 }
      errSticky := s.errSticky ||| (if s.framer.fs = .seeking then 0x0080 else 0x0084)
      mode := if s.mode = .stream then .stopped else s.mode
      stream.stopReason := if s.mode = .stream then some .transportError else s.stream.stopReason
      out := s.out ++ (.error (.transportError s.framer.fs) ::
        (if s.mode = .stream then [.streamStopped .transportError] else [])) }

/-! ### Decoding payloads -/

/-- The kind of a message is selected by the pair and the payload's length (42_codec_decode.md R140, R165, 30_encoding.md
R90, R92): it is Unrecognized exactly where no row of R90 with a decode has the pair and a minimum the payload meets. -/
def Obligations.UnrecognizedFallback : Prop :=
  ∀ (par : Params) (c i : Byte) (p : List Byte),
    decodePayload par c i p = .unrecognized c i ↔
      ¬ (c = 0x06 ∧ i = 0x08 ∧ 6 ≤ p.length ∨ c = 0x06 ∧ i = 0x01 ∧ 8 ≤ p.length ∨
        c = 0x01 ∧ i = 0x07 ∧ 92 ≤ p.length ∨ c = 0x05 ∧ i = 0x01 ∧ 2 ≤ p.length ∨
        c = 0x05 ∧ i = 0x00 ∧ 2 ≤ p.length)

/-- Reserved payload bytes are never read (30_encoding.md R93): payloads of a kind that agree below its minimum length,
but for offsets 79 to 83 of a fix record, decode alike. -/
def Obligations.ReservedBytesNotRead : Prop :=
  ∀ (par : Params) (c i : Byte) (m : Nat) (p q : List Byte), minPayload c i = some m →
    m ≤ p.length → m ≤ q.length →
    (∀ k < m, ¬ (c = 0x01 ∧ 79 ≤ k ∧ k ≤ 83) → p[k]? = q[k]?) →
    decodePayload par c i p = decodePayload par c i q

/-- Field assembly (30_encoding.md R84, R85): little-endian bytes, and the two's-complement reading of signed fields. -/
def Obligations.FieldAssembly : Prop :=
  ∀ (p : List Byte) (o : Nat),
    (o + 1 ≤ p.length → p[o]? = some (byteAt p o)) ∧
    (o + 2 ≤ p.length →
      p[o]? = some ((le16 p o).extractLsb' 0 8) ∧ p[o + 1]? = some ((le16 p o).extractLsb' 8 8) ∧
      s16 p o = (le16 p o).toInt) ∧
    (o + 4 ≤ p.length →
      p[o]? = some ((le32 p o).extractLsb' 0 8) ∧ p[o + 1]? = some ((le32 p o).extractLsb' 8 8) ∧
      p[o + 2]? = some ((le32 p o).extractLsb' 16 8) ∧ p[o + 3]? = some ((le32 p o).extractLsb' 24 8) ∧
      s32 p o = (le32 p o).toInt)

/-- The layout of a fix record (42_codec_decode.md R143, R144): laying the fields out and decoding gives them back,
whatever the reserved and the trailing bytes are. The spec takes the layout from general knowledge, which the model
follows (entry 13). -/
def Obligations.FixRecordLayout : Prop :=
  ∀ (par : Params) (r : FixRecord) (rsv : Vector Byte 5) (extra : List Byte), r.inRange →
    decodePayload par 0x01 0x07 (fixPayload r rsv ++ extra) = .fixRecord r

/-- The configuration records and the acknowledgements (42_codec_decode.md R160, R162, R163, R164). The offsets of R160 are
the spec's own inference ("derived: from 41_codec_encode.md rule R122") and two of its widths general knowledge (entry
13). -/
def Obligations.ConfigRecords : Prop :=
  ∀ (par : Params) (measRate navRate timeRef : U16) (c i : Byte) (rates : Vector Byte 6) (extra : List Byte),
    decodePayload par 0x06 0x08
      (littleEndian 2 measRate.toNat ++ littleEndian 2 navRate.toNat ++ littleEndian 2 timeRef.toNat ++ extra) =
        .rateConfig { measRate := measRate, navRate := navRate, timeRef := timeRef } ∧
    decodePayload par 0x06 0x01 ([c, i] ++ rates.toList ++ extra) =
      .msgEnableConfig
        { msgClass := c, msgId := i, rates := rates, enabled := decide (rates[par.ifPort] ≠ 0) } ∧
    decodePayload par 0x05 0x01 ([c, i] ++ extra) = .ack { echoedClass := c, echoedId := i } ∧
    decodePayload par 0x05 0x00 ([c, i] ++ extra) = .nack { echoedClass := c, echoedId := i }

/-- The flags of a fix record, by their bits (42_codec_decode.md R150 to R153). The spec takes the bit positions from
general knowledge, which the model follows (entry 13). -/
def Obligations.FlagBits : Prop :=
  ∀ r : FixRecord,
    r.utcDateValid = r.valid.getLsbD 0 ∧ r.utcTimeValid = r.valid.getLsbD 1 ∧
    r.fullyResolved = r.valid.getLsbD 2 ∧ r.magneticDeclinationValid = r.valid.getLsbD 3 ∧
    r.fixOk = r.flags.getLsbD 0 ∧ r.differentialApplied = r.flags.getLsbD 1 ∧
    r.powerSaveField.toNat = r.flags.toNat / 4 % 8 ∧ r.vehicleHeadingValid = r.flags.getLsbD 5 ∧
    r.carrierSolutionField.toNat = r.flags.toNat / 64 ∧
    r.confirmationAvailable = r.flags2.getLsbD 5 ∧ r.utcDateConfirmed = r.flags2.getLsbD 6 ∧
    r.utcTimeConfirmed = r.flags2.getLsbD 7 ∧ r.positionInvalid = r.flags3.getLsbD 0

/-- The scaler (42_codec_decode.md R170, R171): the exact rational `raw * 10^e` in the field's base unit. The spec takes
the units of `sAcc` and `headAcc` from general knowledge, which the model follows (entry 13). -/
def Obligations.ScalerIsExact : Prop :=
  ∀ raw : Int,
    (∀ f ∈ ([.iTOW] : List FixField),
      (scale f raw).value = raw * (10 : Rat) ^ (-3 : Int) ∧ (scale f raw).unit = .second) ∧
    (∀ f ∈ ([.tAcc, .nano] : List FixField),
      (scale f raw).value = raw * (10 : Rat) ^ (-9 : Int) ∧ (scale f raw).unit = .second) ∧
    (∀ f ∈ ([.lon, .lat] : List FixField),
      (scale f raw).value = raw * (10 : Rat) ^ (-7 : Int) ∧ (scale f raw).unit = .degree) ∧
    (∀ f ∈ ([.height, .hMSL, .hAcc, .vAcc] : List FixField),
      (scale f raw).value = raw * (10 : Rat) ^ (-3 : Int) ∧ (scale f raw).unit = .metre) ∧
    (∀ f ∈ ([.velN, .velE, .velD, .gSpeed, .sAcc] : List FixField),
      (scale f raw).value = raw * (10 : Rat) ^ (-3 : Int) ∧ (scale f raw).unit = .metrePerSecond) ∧
    (∀ f ∈ ([.headMot, .headVeh, .headAcc] : List FixField),
      (scale f raw).value = raw * (10 : Rat) ^ (-5 : Int) ∧ (scale f raw).unit = .degree) ∧
    (∀ f ∈ ([.pDOP] : List FixField),
      (scale f raw).value = raw * (10 : Rat) ^ (-2 : Int) ∧ (scale f raw).unit = .ratio) ∧
    (∀ f ∈ ([.magDec, .magAcc] : List FixField),
      (scale f raw).value = raw * (10 : Rat) ^ (-2 : Int) ∧ (scale f raw).unit = .degree) ∧
    (∀ f ∈ ([.year, .month, .day, .hour, .min, .sec, .numSV, .fixType] : List FixField),
      (scale f raw).value = raw ∧ (scale f raw).unit = .itself)

/-! ### Whole messages, by mode -/

/-- A whole valid message outside the runs (43_framer.md R187, 45_stream.md R250, R260): it is recorded, counted and
reported, and nothing is routed. Each of the six inbound message kinds, with every payload its row describes. That a
message is an instruction of its own, whatever the framer was doing, is the model's reading (entries 1 and 18), and so is
the length field of more than 65535 bytes, which only an illegal `P_MAX_PAYLOAD` lets in (entry 22). -/
def Obligations.HandOffOutsideRuns : Prop :=
  ∀ (s : State) (i : Instr) (c id : Byte) (p : List Byte) (m : DecodedMessage),
    inboundMessage s.par i = some (c, id, p, m) → i.wellFormed s.par = true →
    s.mode = .idle ∨ s.mode = .stopped →
    ∃ t : State, exec i s = .next t ∧ s.Delivered s t c id p m

/-- In STREAM a fix record is published whole (45_stream.md R251, 20_memory.md R66), whatever a payload of 92 bytes or more
holds. That the message is an instruction of its own, whatever the framer was doing, is the model's reading (entries 1, 18 and 22);
`WholeFrameIsMessage` says that it stands for the step of the last byte. -/
def Obligations.StreamPublishes : Prop :=
  ∀ (s : State) (p : List Byte), 92 ≤ p.length → p.length ≤ s.par.maxPayload → s.mode = .stream →
    ∃ t : State, exec (.rxFixRecord p) s = .next t ∧
      s.Delivered
        { s with
          stream := { s.stream with
            rxIdle := 0, fixOut := some (decodeFix p), fixSeq := s.stream.fixSeq + 1 }
          out := s.out ++ [.fixPublish (decodeFix p) (s.stream.fixSeq + 1)] }
        t 0x01 0x07 p (.fixRecord (decodeFix p))

/-- In STREAM every other valid message, with every payload its row describes, changes no stream state but the idle count
its bytes clear (45_stream.md R254, R258). That a message is an instruction of its own, whatever the framer was doing,
is the model's reading (entries 1, 18 and 22). -/
def Obligations.StreamIgnoresOthers : Prop :=
  ∀ (s : State) (i : Instr) (c id : Byte) (p : List Byte) (m : DecodedMessage),
    inboundMessage s.par i = some (c, id, p, m) → i.wellFormed s.par = true → s.mode = .stream →
    (∀ r, m ≠ .fixRecord r) →
    ∃ t : State, exec i s = .next t ∧ s.Delivered { s with stream.rxIdle := 0 } t c id p m

/-- The Ack of a command step (44_sequencer.md R214, R211, R217): the next step starts and its command goes out, or the
run is complete. That the message is an instruction of its own, whatever the framer was doing, is the model's reading
(entries 1, 18 and 22). -/
def Obligations.AckOfCommandStep : Prop :=
  ∀ (s : State) (extra : List Byte), s.mode = .startup → s.seq.step ≠ .pollRate → s.seq.step ≠ .pollFixConfig →
    extra.length + 2 ≤ s.par.maxPayload →
    let p := (stepKey s.seq.step).1 :: (stepKey s.seq.step).2 :: extra
    let m := DecodedMessage.ack { echoedClass := (stepKey s.seq.step).1, echoedId := (stepKey s.seq.step).2 }
    ∃ t : State, exec (.rxAck p) s = .next t ∧
      (∀ n, (s.seq.step = .setProtocolFilter ∧ n = .setRate ∨ s.seq.step = .setRate ∧ n = .enableFixOutput ∨
          s.seq.step = .enableFixOutput ∧ s.seq.verify = true ∧ n = .pollRate) →
        s.Delivered
          { s with
            seq := { s.seq with
              step := n, retries := 0, failReason := none, wait := 0,
              rbRate := if n = .pollRate then none else s.seq.rbRate }
            out := s.out ++
              [.seqStepOk s.seq.step, .txFrame (commandFrame s.par (stepCommand s.seq.preset n))] }
          t 0x05 0x01 p m) ∧
      (s.seq.step = .enableFixOutput → s.seq.verify = false →
        s.Delivered
          { s with
            mode := .idle, seq.state := .done,
            out := s.out ++ [.seqStepOk .enableFixOutput, .seqDone] }
          t 0x05 0x01 p m)

/-- The Ack of POLL_RATE (44_sequencer.md R226, R214): the read-back is checked against the preset's rate, and
POLL_FIX_CONFIG starts whatever the check finds. That the message is an instruction of its own, whatever the framer was
doing, is the model's reading (entries 1, 18 and 22). -/
def Obligations.AckOfPollRate : Prop :=
  ∀ (s : State) (extra : List Byte), s.mode = .startup → s.seq.step = .pollRate →
    extra.length + 2 ≤ s.par.maxPayload →
    let expected : RateConfig :=
      { measRate := if s.seq.preset = .r4x2 then 250 else 500, navRate := 2, timeRef := 0 }
    let warn : Option WarnKind :=
      if s.seq.rbRate = none then some .missing
      else if s.seq.rbRate = some expected then none else some .mismatch
    let warning : List OutEvent := match s.seq.rbRate with
      | none => [.seqWarning .pollRate .missing .none]
      | some c => if c = expected then [] else [.seqWarning .pollRate .mismatch (.rate c)]
    ∃ t : State, exec (.rxAck (0x06 :: 0x08 :: extra)) s = .next t ∧
      s.Delivered
        { s with
          seq := { s.seq with
            step := .pollFixConfig, retries := 0, failReason := none, wait := 0, rbMsg := none, warnRate := warn }
          out := s.out ++ warning ++ [.seqStepOk .pollRate, .txFrame (commandFrame s.par .pollFixConfig)] }
        t 0x05 0x01 (0x06 :: 0x08 :: extra) (.ack { echoedClass := 0x06, echoedId := 0x08 })

/-- The Ack of POLL_FIX_CONFIG (44_sequencer.md R227, R217): the read-back must be there and enabled, and the run is
complete whatever the check finds. That the message is an instruction of its own, whatever the framer was doing, is the
model's reading (entries 1, 18 and 22). -/
def Obligations.AckOfPollFixConfig : Prop :=
  ∀ (s : State) (extra : List Byte), s.mode = .startup → s.seq.step = .pollFixConfig →
    extra.length + 2 ≤ s.par.maxPayload →
    let warn : Option WarnKind := match s.seq.rbMsg with
      | none => some .missing
      | some m => if m.enabled then none else some .mismatch
    let warning : List OutEvent := match s.seq.rbMsg with
      | none => [.seqWarning .pollFixConfig .missing .none]
      | some m => if m.enabled then [] else [.seqWarning .pollFixConfig .mismatch (.msg m)]
    ∃ t : State, exec (.rxAck (0x06 :: 0x01 :: extra)) s = .next t ∧
      s.Delivered
        { s with
          mode := .idle
          seq := { s.seq with state := .done, warnMsg := warn }
          out := s.out ++ warning ++ [.seqStepOk .pollFixConfig, .seqDone] }
        t 0x05 0x01 (0x06 :: 0x01 :: extra) (.ack { echoedClass := 0x06, echoedId := 0x01 })

/-- A matching Nack (44_sequencer.md R219 to R222): the first one of a step sends the same command again, the second one
fails the run. That the message is an instruction of its own, whatever the framer was doing, is the model's reading
(entries 1, 18 and 22). -/
def Obligations.NackRetriesThenFails : Prop :=
  ∀ (s : State) (extra : List Byte), s.mode = .startup → extra.length + 2 ≤ s.par.maxPayload →
    let p := (stepKey s.seq.step).1 :: (stepKey s.seq.step).2 :: extra
    ∃ t : State, exec (.rxNack p) s = .next t ∧
      s.Delivered (s.afterStepFailed .nackReceived) t 0x05 0x00 p
        (.nack { echoedClass := (stepKey s.seq.step).1, echoedId := (stepKey s.seq.step).2 })

/-- The read-backs of the poll steps (44_sequencer.md R215, R216): each is kept while its step waits, and a later one
replaces it. That a message is an instruction of its own, whatever the framer was doing, is the model's reading (entries
1, 18 and 22). -/
def Obligations.ReadBackCaptured : Prop :=
  ∀ (s : State) (p : List Byte), s.mode = .startup → p.length ≤ s.par.maxPayload →
    (s.seq.step = .pollRate → 6 ≤ p.length → ∃ t : State, exec (.rxRateConfig p) s = .next t ∧
      s.Delivered { s with seq.rbRate := some (decodeRate p) } t 0x06 0x08 p (.rateConfig (decodeRate p))) ∧
    (s.seq.step = .pollFixConfig → 8 ≤ p.length →
      (decodeMsg s.par p).msgClass = 0x01 → (decodeMsg s.par p).msgId = 0x07 →
      ∃ t : State, exec (.rxMsgEnableConfig p) s = .next t ∧
        s.Delivered { s with seq.rbMsg := some (decodeMsg s.par p) } t 0x06 0x01 p
          (.msgEnableConfig (decodeMsg s.par p)))

/-- Every other message during startup, with every payload its row describes, changes no sequencer state
(44_sequencer.md R223). That a message is an instruction of its own, whatever the framer was doing, is the model's reading
(entries 1, 18 and 22). -/
def Obligations.StartupIgnoresOthers : Prop :=
  ∀ (s : State) (i : Instr) (c id : Byte) (p : List Byte) (m : DecodedMessage),
    inboundMessage s.par i = some (c, id, p, m) → i.wellFormed s.par = true → s.mode = .startup →
    s.answered m = false → (∀ x, m = .rateConfig x → s.seq.step ≠ .pollRate) →
    (∀ x, m = .msgEnableConfig x →
      ¬ (s.seq.step = .pollFixConfig ∧ x.msgClass = 0x01 ∧ x.msgId = 0x07)) →
    ∃ t : State, exec i s = .next t ∧ s.Delivered s t c id p m

/-! ### Control events -/

/-- START_SEQ (44_sequencer.md R213, R212): legal in IDLE and STOPPED, refused in STARTUP and STREAM. -/
def Obligations.StartSeqEffect : Prop :=
  ∀ (s : State) (p : Preset) (v : Bool),
    exec (.startSeq p v) s = .next
      (if s.mode = .idle ∨ s.mode = .stopped then
        { s with
          mode := .startup
          seq := { s.seq with
            state := .await, preset := p, verify := v, step := .setProtocolFilter, retries := 0,
            failStep := none, failReason := none, warnRate := none, warnMsg := none, wait := 0 }
          out := s.out ++ [.txFrame (frame 0x06 0x00 s.par.prtPayload.toList)] }
      else
        s.afterRefusal (match p, v with
          | .r4x2, false => 0x4000
          | .r2x1, false => 0x4001
          | .r4x2, true => 0x4002
          | .r2x1, true => 0x4003))

/-- START_STREAM (45_stream.md R252): legal in IDLE and STOPPED when no run has ended FAILED or CANCELLED, else refused. -/
def Obligations.StartStreamEffect : Prop :=
  ∀ s : State,
    exec .startStream s = .next
      (if (s.mode = .idle ∨ s.mode = .stopped) ∧ (s.seq.state = .notRun ∨ s.seq.state = .done) then
        { s with
          mode := .stream
          stream := { s.stream with rxIdle := 0, stopReason := none }
          out := s.out ++ [.streamStarted] }
      else s.afterRefusal 0x5000)

/-- TICK (44_sequencer.md R218, R220, 45_stream.md R253, R256): the two timers, each in its mode. -/
def Obligations.TickEffect : Prop :=
  ∀ s : State,
    (s.mode = .idle ∨ s.mode = .stopped → exec .tick s = .next s) ∧
    (s.mode = .startup → s.seq.wait + 1 < s.par.ackTimeout →
      exec .tick s = .next { s with seq.wait := s.seq.wait + 1 }) ∧
    (s.mode = .startup → s.par.ackTimeout ≤ s.seq.wait + 1 →
      exec .tick s = .next (State.afterStepFailed .ackTimeout { s with seq.wait := s.seq.wait + 1 })) ∧
    (s.mode = .stream → s.stream.rxIdle + 1 < s.par.rxTimeout →
      exec .tick s = .next { s with stream.rxIdle := s.stream.rxIdle + 1 }) ∧
    (s.mode = .stream → s.par.rxTimeout ≤ s.stream.rxIdle + 1 →
      exec .tick s = .next { s with
        mode := .stopped
        stream := { s.stream with rxIdle := s.stream.rxIdle + 1, stopReason := some .transportTimeout }
        errSticky := s.errSticky ||| 0x0100
        out := s.out ++ [.streamStopped .transportTimeout] })

/-- CANCEL (45_stream.md R255, R256, 44_sequencer.md R224): it ends the stream or the startup run, and never is refused. -/
def Obligations.CancelEffect : Prop :=
  ∀ s : State,
    (s.mode = .idle ∨ s.mode = .stopped → exec .cancel s = .next s) ∧
    (s.mode = .startup → exec .cancel s = .next { s with
      mode := .idle
      seq.state := .cancelled
      errSticky := s.errSticky ||| 0x0400
      out := s.out ++ [.seqCancelled s.seq.step] }) ∧
    (s.mode = .stream → exec .cancel s = .next { s with
      mode := .stopped
      stream.stopReason := some .cancelled
      errSticky := s.errSticky ||| 0x0400
      out := s.out ++ [.streamStopped .cancelled] })

/-- RESET (70_reset_and_hazards.md R300): every register but the payload buffer takes the value of the rule's table, and
nothing is emitted. The buffer's bytes are a free draw, of which nothing is said (entry 6). That the delivered event
words (`inbox`, entry 2) and the output emitted before (`out`, entry 4) stay is the model's choice. -/
def Obligations.ResetEffect : Prop :=
  ∀ s : State, ∃ t : State, exec .reset s = .next t ∧
    t.framer = { fs := .seeking, fIdx := 0, winValid := false, winByte := 0x00, fClass := 0, fId := 0, fLen := 0,
                 fPay := t.framer.fPay, runA := 0, runB := 0, fCka := 0 } ∧
    t.lastFrame = none ∧ t.lastMsg = none ∧ t.mode = .idle ∧
    t.seq = { state := .notRun, step := .setProtocolFilter, preset := .r4x2, verify := false, retries := 0, wait := 0,
              failStep := none, failReason := none, rbRate := none, rbMsg := none, warnRate := none,
              warnMsg := none } ∧
    t.stream = { rxIdle := 0, stopReason := none, fixOut := none, fixSeq := 0 } ∧
    t.cnt = { framesOk := 0, ckErr := 0, lenErr := 0, abort := 0, rxErr := 0, unrec := 0, illegal := 0 } ∧
    t.errSticky = 0x0000 ∧ t.par = s.par ∧ t.inbox = s.inbox ∧ t.out = s.out

/-- Power-on (70_reset_and_hazards.md R301) is the state a RESET leaves, register by register. -/
def Obligations.PowerOnIsReset : Prop :=
  ∀ s t : State, exec .reset s = .next t →
    State.reset.framer = { t.framer with fPay := State.reset.framer.fPay } ∧
    State.reset.lastFrame = t.lastFrame ∧ State.reset.lastMsg = t.lastMsg ∧ State.reset.mode = t.mode ∧
    State.reset.seq = t.seq ∧ State.reset.stream = t.stream ∧ State.reset.cnt = t.cnt ∧
    State.reset.errSticky = t.errSticky

/-! ### What every step keeps -/

/-- Every counter only counts, by one, modulo 2^32, and only RESET clears it (10_state.md R44). -/
def Obligations.CountersOnlyCount : Prop :=
  ∀ (i : Instr) (s t : State), exec i s = .next t →
    (i ≠ .reset →
      (t.cnt.framesOk = s.cnt.framesOk ∨ t.cnt.framesOk = s.cnt.framesOk + 1) ∧
      (t.cnt.ckErr = s.cnt.ckErr ∨ t.cnt.ckErr = s.cnt.ckErr + 1) ∧
      (t.cnt.lenErr = s.cnt.lenErr ∨ t.cnt.lenErr = s.cnt.lenErr + 1) ∧
      (t.cnt.abort = s.cnt.abort ∨ t.cnt.abort = s.cnt.abort + 1) ∧
      (t.cnt.rxErr = s.cnt.rxErr ∨ t.cnt.rxErr = s.cnt.rxErr + 1) ∧
      (t.cnt.unrec = s.cnt.unrec ∨ t.cnt.unrec = s.cnt.unrec + 1) ∧
      (t.cnt.illegal = s.cnt.illegal ∨ t.cnt.illegal = s.cnt.illegal + 1)) ∧
    (i = .reset → t.cnt = { framesOk := 0, ckErr := 0, lenErr := 0, abort := 0, rxErr := 0, unrec := 0, illegal := 0 })

/-- `err_sticky` (10_state.md R45): a `raise` sets its cause's bit and no other, no event but RESET clears a bit, and
bits 0 and 11 to 15 stay 0. -/
def Obligations.StickyBitsStay : Prop :=
  (∀ (c : Cause) (s : State) (n : Nat),
    (s.raise c).errSticky.getLsbD n = (s.errSticky.getLsbD n || decide (n = c.code))) ∧
  (∀ (i : Instr) (s t : State), exec i s = .next t →
    (i ≠ .reset → ∀ n, s.errSticky.getLsbD n = true → t.errSticky.getLsbD n = true) ∧
    (i = .reset → t.errSticky = 0x0000) ∧
    (s.errSticky &&& 0xF801 = 0 → t.errSticky &&& 0xF801 = 0)) ∧
  State.reset.errSticky = 0x0000

/-- No error corrupts published data: an event other than RESET leaves the output pair alone and emits no FIX_PUBLISH, or
it publishes, in STREAM, the record decoded from a frame that validates. The spec's own inference (60_exceptions.md R282,
"derived: from 45_stream.md rules R251 and R257"). -/
def Obligations.OnlyPublishWritesOutput : Prop :=
  ∀ (w : U16) (s t : State), s.Inv → w ≠ resetWord → exec (decodeWord w) s = .next t →
    (t.stream.fixOut = s.stream.fixOut ∧ t.stream.fixSeq = s.stream.fixSeq ∧
      t.out.countP OutEvent.isFixPublish = s.out.countP OutEvent.isFixPublish) ∨
    (s.mode = .stream ∧ ∃ (r : FixRecord) (f : RawFrame),
      t.stream.fixOut = some r ∧ t.stream.fixSeq = s.stream.fixSeq + 1 ∧
      t.lastFrame = some f ∧ validate f = true ∧ f.cls = 0x01 ∧ f.id = 0x07 ∧ 92 ≤ f.payload.length ∧
      r = decodeFix f.payload ∧
      t.out = s.out ++ [.frameOk f, .msg (.fixRecord r), .fixPublish r (s.stream.fixSeq + 1)])

/-- The startup sequence and the stream never run together: no frame is sent in STREAM, nothing is published in STARTUP,
and neither can be started while the other runs. The spec's own inference (45_stream.md R261, "derived: from rules R250,
R252 and 44_sequencer.md rules R213 and R229"). -/
def Obligations.PhasesNeverOverlap : Prop :=
  ∀ (w : U16) (s t : State), exec (decodeWord w) s = .next t →
    (s.mode = .stream ∨ t.mode = .stream → t.out.countP OutEvent.isTxFrame = s.out.countP OutEvent.isTxFrame) ∧
    (s.mode = .startup ∨ t.mode = .startup →
      t.out.countP OutEvent.isFixPublish = s.out.countP OutEvent.isFixPublish) ∧
    (s.mode = .stream → t.mode ≠ .startup) ∧ (s.mode = .startup → t.mode ≠ .stream)

/-- The output lists of a step are those of the table of 60_exceptions.md R273, in its order. The table is the spec's own
inference from the rules of the events ("derived: from 43_framer.md rules R187 and R189, ..."). -/
def Obligations.OutputOrders : Prop :=
  ∀ (w : U16) (s t : State), exec (decodeWord w) s = .next t →
    ∃ o, t.out = s.out ++ o ∧ StepOutput s (decodeWord w) o

/-- No event writes a parameter (00_scope.md R7, 70_reset_and_hazards.md R315). -/
def Obligations.ParametersFixed : Prop :=
  ∀ (i : Instr) (s t : State), exec i s = .next t → t.par = s.par

/-- The stale bytes of the payload buffer are never observed: two states that differ only in bytes the frame in progress
has not written take every event alike. The spec's own inference (10_state.md R26, "derived: from 43_framer.md rule R185
and 42_codec_decode.md rule R140"). -/
def Obligations.StaleBytesUnobserved : Prop :=
  ∀ (w : U16) (s u t : State), s.Inv → u.Inv →
    u = { s with framer.fPay := u.framer.fPay, draws := u.draws } →
    (∀ k < s.payloadArrived, s.payByte k = u.payByte k) →
    exec (decodeWord w) s = .next t →
    ∃ v : State, exec (decodeWord w) u = .next v ∧
      v = { t with framer.fPay := v.framer.fPay, draws := v.draws } ∧
      ∀ k < t.payloadArrived, t.payByte k = v.payByte k

/-- The invariant holds at power-on. -/
def Obligations.InvHoldsAtReset : Prop := State.reset.Inv

/-- Every step keeps the invariant: the framer's ranges and its running checksum, the buffer's canonical form, and the
relations 10_state.md R32, R35 to R37, R40, R41, R45 and R48 state between registers. -/
def Obligations.InvKeptByStep : Prop :=
  ∀ s t : State, s.Inv → step s = .next t → t.Inv

/-- From a state of the invariant no step stops (60_exceptions.md R277, R281, 70_reset_and_hazards.md R305): the block
has no trap and never halts by itself. -/
def Obligations.NeverStops : Prop :=
  ∀ s : State, s.Inv → ∃ t : State, step s = .next t

/-! ### Runs -/

/-- Bounded startup (70_reset_and_hazards.md R306): after a legal START_SEQ, whatever events arrive, a run with no RESET is
finished after at most `N` times `P_ACK_TIMEOUT` ticks, where `N` is 10 with verification and 6 without. The spec's own
inference ("derived: from 44_sequencer.md rules R218 to R229"). -/
def Obligations.BoundedStartup : Prop :=
  ∀ (s s1 : State) (p : Preset) (v : Bool) (ws : List U16), s.Inv → s.mode = .idle ∨ s.mode = .stopped →
    exec (.startSeq p v) s = .next s1 → resetWord ∉ ws →
    (if v then 10 else 6) * s.par.ackTimeout.toNat ≤ tickCount ws →
    ∃ (ws1 ws2 : List U16) (t : State), ws = ws1 ++ ws2 ∧ runEvents ws1 s1 = .next t ∧
      t.startupFinished = true ∧ tickCount ws1 ≤ (if v then 10 else 6) * s.par.ackTimeout.toNat

/-- Bounded sends (44_sequencer.md R229): a run from a legal START_SEQ sends at most ten frames, its own among them, and
at most six without verification, whatever events follow until the next START_SEQ that is not refused. The spec's own
inference ("derived: from rules R212 to R222"). -/
def Obligations.BoundedSends : Prop :=
  ∀ (s s1 t : State) (p : Preset) (v : Bool) (ws : List U16), s.mode = .idle ∨ s.mode = .stopped →
    exec (.startSeq p v) s = .next s1 → noNewRun ws s1 → runEvents ws s1 = .next t →
    t.out.countP OutEvent.isTxFrame ≤ s.out.countP OutEvent.isTxFrame + (if v then 10 else 6)
end

