-- ==== Sys2Proof/Laws/Memory.lean ====
section
/-! SUPPORT. The laws of the payload buffer: reading after writing, and the canonical form, which every write keeps. -/

namespace Sys2Proof.Machine

@[simp] theorem Memory.read?_nil (a : Nat) : Memory.read? [] a = none := rfl

/-- A read after a write gives the byte written at its address and leaves every other address alone. -/
@[simp] theorem Memory.read?_write (m : Memory) (a k : Nat) (b : Byte) :
    (m.write a b).read? k = if k = a then some b else m.read? k := by
  induction m with
  | nil => simp [Memory.write, Memory.read?]
  | cons c m ih =>
    obtain ⟨x, y⟩ := c
    simp only [Memory.write]
    split
    · simp [Memory.read?]
    · split
      · rename_i h
        subst h
        simp only [Memory.read?]
        split <;> rfl
      · rename_i h
        simp only [Memory.read?, ih]
        by_cases hx : k = x
        · subst hx
          simp [Ne.symm h]
        · simp [hx]

/-- An address in the buffer after a write is the one written or was there before. -/
theorem Memory.mem_write {m : Memory} {a : Nat} {b : Byte} {c : Host.Cell} (h : c ∈ m.write a b) :
    c.1 = a ∨ c ∈ m := by
  induction m with
  | nil => simp_all [Memory.write]
  | cons d m ih =>
    obtain ⟨x, y⟩ := d
    simp only [Memory.write] at h
    split at h
    · rcases List.mem_cons.1 h with rfl | h
      · exact .inl rfl
      · exact .inr h
    · split at h
      · rcases List.mem_cons.1 h with rfl | h
        · exact .inl rfl
        · exact .inr (List.mem_cons_of_mem _ h)
      · rcases List.mem_cons.1 h with rfl | h
        · exact .inr (List.mem_cons_self ..)
        · exact (ih h).imp_right (List.mem_cons_of_mem _)

/-- A write keeps the canonical form. -/
theorem Memory.wf_write {m : Memory} (hm : m.wf) (a : Nat) (b : Byte) : (m.write a b).wf := by
  induction m with
  | nil => simp [Memory.write, Memory.wf]
  | cons d m ih =>
    obtain ⟨x, y⟩ := d
    have hm' := List.pairwise_cons.1 hm
    simp only [Memory.write]
    split
    · rename_i hax
      refine List.pairwise_cons.2 ⟨fun c hc => ?_, hm⟩
      rcases List.mem_cons.1 hc with rfl | hc
      · exact hax
      · exact lt_trans hax (hm'.1 c hc)
    · split
      · rename_i hax
        subst hax
        exact List.pairwise_cons.2 ⟨fun c hc => hm'.1 c hc, hm'.2⟩
      · refine List.pairwise_cons.2 ⟨fun c hc => ?_, ih hm'.2⟩
        rcases Memory.mem_write hc with rfl | hc
        · simp only at *; omega
        · exact hm'.1 c hc

/-- Writing a list keeps the canonical form. -/
theorem Memory.wf_writeList {m : Memory} (hm : m.wf) (a : Nat) (p : List Byte) : (m.writeList a p).wf := by
  induction p generalizing m a with
  | nil => exact hm
  | cons b p ih => exact ih (Memory.wf_write hm a b) (a + 1)

/-- An address in the buffer after writing a list is one written or was there before. -/
theorem Memory.mem_writeList {m : Memory} {a : Nat} {p : List Byte} {c : Host.Cell}
    (h : c ∈ m.writeList a p) : (a ≤ c.1 ∧ c.1 < a + p.length) ∨ c ∈ m := by
  induction p generalizing m a with
  | nil => exact .inr h
  | cons b p ih =>
    rcases ih h with h | h
    · left
      simp only [List.length_cons]
      omega
    · rcases Memory.mem_write h with h | h
      · left
        simp only [List.length_cons]
        omega
      · exact .inr h

/-- Reading after writing a list. -/
theorem Memory.read?_writeList (m : Memory) (a k : Nat) (p : List Byte) :
    (m.writeList a p).read? k = if a ≤ k ∧ k < a + p.length then p[k - a]? else m.read? k := by
  induction p generalizing m a with
  | nil =>
    have : ¬ (a ≤ k ∧ k < a + 0) := by omega
    simp [Memory.writeList]
  | cons b p ih =>
    simp only [Memory.writeList, ih, Memory.read?_write, List.length_cons]
    by_cases h : k = a
    · subst h
      simp
    · by_cases h2 : a + 1 ≤ k ∧ k < a + 1 + p.length
      · have h3 : a ≤ k ∧ k < a + (p.length + 1) := by omega
        have h4 : k - a = (k - (a + 1)) + 1 := by omega
        simp [h2, h3, h4]
      · have h3 : ¬ (a ≤ k ∧ k < a + (p.length + 1)) := by omega
        rw [if_neg h2, if_neg h3, if_neg h]

/-- Writing a value that is there already changes nothing. -/
theorem Memory.write_same {m : Memory} (hm : m.wf) {a : Nat} {b : Byte} (h : m.read? a = some b) :
    m.write a b = m := by
  induction m with
  | nil => simp at h
  | cons d m ih =>
    obtain ⟨x, y⟩ := d
    have hm' := List.pairwise_cons.1 hm
    have below : ∀ {m : Memory}, (∀ c ∈ m, x < c.1) → ∀ k, k ≤ x → m.read? k = none := by
      intro m hm k hk
      induction m with
      | nil => rfl
      | cons e m ih =>
        obtain ⟨u, v⟩ := e
        have hu : x < u := hm (u, v) (List.mem_cons_self ..)
        have : k ≠ u := by omega
        simp only [Memory.read?, this, if_false]
        exact ih fun c hc => hm c (List.mem_cons_of_mem _ hc)
    simp only [Memory.read?] at h
    split at h
    · rename_i hax
      subst hax
      cases h
      simp [Memory.write]
    · rename_i hax
      have hlt : ¬ a < x := by
        intro hlt
        rw [below hm'.1 a (le_of_lt hlt)] at h
        cases h
      simp [Memory.write, hlt, hax, ih hm'.2 h]

/-- Writing a list that is there already changes nothing. -/
theorem Memory.writeList_same {m : Memory} (hm : m.wf) {a : Nat} {p : List Byte}
    (h : ∀ k (hk : k < p.length), m.read? (a + k) = some p[k]) : m.writeList a p = m := by
  induction p generalizing a with
  | nil => rfl
  | cons b p ih =>
    have h0 := h 0 (by simp)
    simp only [Nat.add_zero, List.getElem_cons_zero] at h0
    simp only [Memory.writeList, Memory.write_same hm h0]
    refine ih fun k hk => ?_
    have := h (k + 1) (by simpa using hk)
    simpa [Nat.add_assoc, Nat.add_comm 1] using this

/-- Writing a list and then one byte after its end is writing the longer list. -/
theorem Memory.writeList_append (m : Memory) (a : Nat) (p : List Byte) (b : Byte) :
    m.writeList a (p ++ [b]) = (m.writeList a p).write (a + p.length) b := by
  induction p generalizing m a with
  | nil => rfl
  | cons c p ih =>
    simp only [List.cons_append, Memory.writeList, ih, List.length_cons]
    congr 1
    omega

end Sys2Proof.Machine
end

