-- ==== Sys2Proof/Laws/State.lean ====
section
/-! SUPPORT. The small lemmas of the shared operations: one per field per operation, each true by `rfl`, so that no
later proof unfolds a record update. An operation's changed fields come first; every other field is left alone. -/

namespace Sys2Proof.Machine

variable (s : State)

/-! ### emit -/

@[simp] theorem State.emit_out (e : OutEvent) : (s.emit e).out = s.out ++ [e] := rfl
@[simp] theorem State.emit_framer (e : OutEvent) : (s.emit e).framer = s.framer := rfl
@[simp] theorem State.emit_lastFrame (e : OutEvent) : (s.emit e).lastFrame = s.lastFrame := rfl
@[simp] theorem State.emit_lastMsg (e : OutEvent) : (s.emit e).lastMsg = s.lastMsg := rfl
@[simp] theorem State.emit_mode (e : OutEvent) : (s.emit e).mode = s.mode := rfl
@[simp] theorem State.emit_seq (e : OutEvent) : (s.emit e).seq = s.seq := rfl
@[simp] theorem State.emit_stream (e : OutEvent) : (s.emit e).stream = s.stream := rfl
@[simp] theorem State.emit_cnt (e : OutEvent) : (s.emit e).cnt = s.cnt := rfl
@[simp] theorem State.emit_errSticky (e : OutEvent) : (s.emit e).errSticky = s.errSticky := rfl
@[simp] theorem State.emit_par (e : OutEvent) : (s.emit e).par = s.par := rfl
@[simp] theorem State.emit_draws (e : OutEvent) : (s.emit e).draws = s.draws := rfl
@[simp] theorem State.emit_inbox (e : OutEvent) : (s.emit e).inbox = s.inbox := rfl

/-! ### raise -/

@[simp] theorem State.raise_errSticky (c : Cause) : (s.raise c).errSticky = s.errSticky ||| c.bit := rfl
@[simp] theorem State.raise_framer (c : Cause) : (s.raise c).framer = s.framer := rfl
@[simp] theorem State.raise_lastFrame (c : Cause) : (s.raise c).lastFrame = s.lastFrame := rfl
@[simp] theorem State.raise_lastMsg (c : Cause) : (s.raise c).lastMsg = s.lastMsg := rfl
@[simp] theorem State.raise_mode (c : Cause) : (s.raise c).mode = s.mode := rfl
@[simp] theorem State.raise_seq (c : Cause) : (s.raise c).seq = s.seq := rfl
@[simp] theorem State.raise_stream (c : Cause) : (s.raise c).stream = s.stream := rfl
@[simp] theorem State.raise_cnt (c : Cause) : (s.raise c).cnt = s.cnt := rfl
@[simp] theorem State.raise_par (c : Cause) : (s.raise c).par = s.par := rfl
@[simp] theorem State.raise_draws (c : Cause) : (s.raise c).draws = s.draws := rfl
@[simp] theorem State.raise_inbox (c : Cause) : (s.raise c).inbox = s.inbox := rfl
@[simp] theorem State.raise_out (c : Cause) : (s.raise c).out = s.out := rfl

/-! ### refuse -/

@[simp] theorem State.refuse_cnt (w : U16) : (s.refuse w).cnt = { s.cnt with illegal := s.cnt.illegal + 1 } := rfl
@[simp] theorem State.refuse_errSticky (w : U16) : (s.refuse w).errSticky = s.errSticky ||| Cause.illegalEvent.bit := rfl
@[simp] theorem State.refuse_out (w : U16) : (s.refuse w).out = s.out ++ [.error (.illegalEvent w)] := rfl
@[simp] theorem State.refuse_framer (w : U16) : (s.refuse w).framer = s.framer := rfl
@[simp] theorem State.refuse_lastFrame (w : U16) : (s.refuse w).lastFrame = s.lastFrame := rfl
@[simp] theorem State.refuse_lastMsg (w : U16) : (s.refuse w).lastMsg = s.lastMsg := rfl
@[simp] theorem State.refuse_mode (w : U16) : (s.refuse w).mode = s.mode := rfl
@[simp] theorem State.refuse_seq (w : U16) : (s.refuse w).seq = s.seq := rfl
@[simp] theorem State.refuse_stream (w : U16) : (s.refuse w).stream = s.stream := rfl
@[simp] theorem State.refuse_par (w : U16) : (s.refuse w).par = s.par := rfl
@[simp] theorem State.refuse_draws (w : U16) : (s.refuse w).draws = s.draws := rfl
@[simp] theorem State.refuse_inbox (w : U16) : (s.refuse w).inbox = s.inbox := rfl

/-! ### enterSeeking -/

@[simp] theorem State.enterSeeking_framer : (s.enterSeeking).framer = { s.framer with fs := .seeking, fIdx := 0, winValid := false } := rfl
@[simp] theorem State.enterSeeking_lastFrame : (s.enterSeeking).lastFrame = s.lastFrame := rfl
@[simp] theorem State.enterSeeking_lastMsg : (s.enterSeeking).lastMsg = s.lastMsg := rfl
@[simp] theorem State.enterSeeking_mode : (s.enterSeeking).mode = s.mode := rfl
@[simp] theorem State.enterSeeking_seq : (s.enterSeeking).seq = s.seq := rfl
@[simp] theorem State.enterSeeking_stream : (s.enterSeeking).stream = s.stream := rfl
@[simp] theorem State.enterSeeking_cnt : (s.enterSeeking).cnt = s.cnt := rfl
@[simp] theorem State.enterSeeking_errSticky : (s.enterSeeking).errSticky = s.errSticky := rfl
@[simp] theorem State.enterSeeking_par : (s.enterSeeking).par = s.par := rfl
@[simp] theorem State.enterSeeking_draws : (s.enterSeeking).draws = s.draws := rfl
@[simp] theorem State.enterSeeking_inbox : (s.enterSeeking).inbox = s.inbox := rfl
@[simp] theorem State.enterSeeking_out : (s.enterSeeking).out = s.out := rfl

/-! ### ckByte -/

@[simp] theorem State.ckByte_framer (b : Byte) : (s.ckByte b).framer = { s.framer with runA := s.framer.runA + b, runB := s.framer.runB + (s.framer.runA + b) } := rfl
@[simp] theorem State.ckByte_lastFrame (b : Byte) : (s.ckByte b).lastFrame = s.lastFrame := rfl
@[simp] theorem State.ckByte_lastMsg (b : Byte) : (s.ckByte b).lastMsg = s.lastMsg := rfl
@[simp] theorem State.ckByte_mode (b : Byte) : (s.ckByte b).mode = s.mode := rfl
@[simp] theorem State.ckByte_seq (b : Byte) : (s.ckByte b).seq = s.seq := rfl
@[simp] theorem State.ckByte_stream (b : Byte) : (s.ckByte b).stream = s.stream := rfl
@[simp] theorem State.ckByte_cnt (b : Byte) : (s.ckByte b).cnt = s.cnt := rfl
@[simp] theorem State.ckByte_errSticky (b : Byte) : (s.ckByte b).errSticky = s.errSticky := rfl
@[simp] theorem State.ckByte_par (b : Byte) : (s.ckByte b).par = s.par := rfl
@[simp] theorem State.ckByte_draws (b : Byte) : (s.ckByte b).draws = s.draws := rfl
@[simp] theorem State.ckByte_inbox (b : Byte) : (s.ckByte b).inbox = s.inbox := rfl
@[simp] theorem State.ckByte_out (b : Byte) : (s.ckByte b).out = s.out := rfl

/-! ### loadFrame -/

@[simp] theorem State.loadFrame_lastFrame (c i : Byte) (p : List Byte) (a : Byte) : (s.loadFrame c i p a).lastFrame = s.lastFrame := rfl
@[simp] theorem State.loadFrame_lastMsg (c i : Byte) (p : List Byte) (a : Byte) : (s.loadFrame c i p a).lastMsg = s.lastMsg := rfl
@[simp] theorem State.loadFrame_mode (c i : Byte) (p : List Byte) (a : Byte) : (s.loadFrame c i p a).mode = s.mode := rfl
@[simp] theorem State.loadFrame_seq (c i : Byte) (p : List Byte) (a : Byte) : (s.loadFrame c i p a).seq = s.seq := rfl
@[simp] theorem State.loadFrame_stream (c i : Byte) (p : List Byte) (a : Byte) : (s.loadFrame c i p a).stream = s.stream := rfl
@[simp] theorem State.loadFrame_cnt (c i : Byte) (p : List Byte) (a : Byte) : (s.loadFrame c i p a).cnt = s.cnt := rfl
@[simp] theorem State.loadFrame_errSticky (c i : Byte) (p : List Byte) (a : Byte) : (s.loadFrame c i p a).errSticky = s.errSticky := rfl
@[simp] theorem State.loadFrame_par (c i : Byte) (p : List Byte) (a : Byte) : (s.loadFrame c i p a).par = s.par := rfl
@[simp] theorem State.loadFrame_draws (c i : Byte) (p : List Byte) (a : Byte) : (s.loadFrame c i p a).draws = s.draws := rfl
@[simp] theorem State.loadFrame_inbox (c i : Byte) (p : List Byte) (a : Byte) : (s.loadFrame c i p a).inbox = s.inbox := rfl
@[simp] theorem State.loadFrame_out (c i : Byte) (p : List Byte) (a : Byte) : (s.loadFrame c i p a).out = s.out := rfl

/-! ### loadEnvelope -/

@[simp] theorem State.loadEnvelope_lastFrame (c i l : Byte) : (s.loadEnvelope c i l).lastFrame = s.lastFrame := rfl
@[simp] theorem State.loadEnvelope_lastMsg (c i l : Byte) : (s.loadEnvelope c i l).lastMsg = s.lastMsg := rfl
@[simp] theorem State.loadEnvelope_mode (c i l : Byte) : (s.loadEnvelope c i l).mode = s.mode := rfl
@[simp] theorem State.loadEnvelope_seq (c i l : Byte) : (s.loadEnvelope c i l).seq = s.seq := rfl
@[simp] theorem State.loadEnvelope_stream (c i l : Byte) : (s.loadEnvelope c i l).stream = s.stream := rfl
@[simp] theorem State.loadEnvelope_cnt (c i l : Byte) : (s.loadEnvelope c i l).cnt = s.cnt := rfl
@[simp] theorem State.loadEnvelope_errSticky (c i l : Byte) : (s.loadEnvelope c i l).errSticky = s.errSticky := rfl
@[simp] theorem State.loadEnvelope_par (c i l : Byte) : (s.loadEnvelope c i l).par = s.par := rfl
@[simp] theorem State.loadEnvelope_draws (c i l : Byte) : (s.loadEnvelope c i l).draws = s.draws := rfl
@[simp] theorem State.loadEnvelope_inbox (c i l : Byte) : (s.loadEnvelope c i l).inbox = s.inbox := rfl
@[simp] theorem State.loadEnvelope_out (c i l : Byte) : (s.loadEnvelope c i l).out = s.out := rfl

/-! ### transmit -/

@[simp] theorem State.transmit_seq (c : Command) : (s.transmit c).seq = { s.seq with wait := 0, rbRate := if c = .pollRate then none else s.seq.rbRate, rbMsg := if c = .pollFixConfig then none else s.seq.rbMsg } := rfl
@[simp] theorem State.transmit_out (c : Command) : (s.transmit c).out = s.out ++ [.txFrame (commandFrame s.par c)] := rfl
@[simp] theorem State.transmit_framer (c : Command) : (s.transmit c).framer = s.framer := rfl
@[simp] theorem State.transmit_lastFrame (c : Command) : (s.transmit c).lastFrame = s.lastFrame := rfl
@[simp] theorem State.transmit_lastMsg (c : Command) : (s.transmit c).lastMsg = s.lastMsg := rfl
@[simp] theorem State.transmit_mode (c : Command) : (s.transmit c).mode = s.mode := rfl
@[simp] theorem State.transmit_stream (c : Command) : (s.transmit c).stream = s.stream := rfl
@[simp] theorem State.transmit_cnt (c : Command) : (s.transmit c).cnt = s.cnt := rfl
@[simp] theorem State.transmit_errSticky (c : Command) : (s.transmit c).errSticky = s.errSticky := rfl
@[simp] theorem State.transmit_par (c : Command) : (s.transmit c).par = s.par := rfl
@[simp] theorem State.transmit_draws (c : Command) : (s.transmit c).draws = s.draws := rfl
@[simp] theorem State.transmit_inbox (c : Command) : (s.transmit c).inbox = s.inbox := rfl

/-! ### send -/

@[simp] theorem State.send_seq (n : SeqStep) : (s.send n).seq = (s.transmit (stepCommand s.seq.preset n)).seq := rfl
@[simp] theorem State.send_out (n : SeqStep) : (s.send n).out = s.out ++ [.txFrame (commandFrame s.par (stepCommand s.seq.preset n))] := rfl
@[simp] theorem State.send_framer (n : SeqStep) : (s.send n).framer = s.framer := rfl
@[simp] theorem State.send_lastFrame (n : SeqStep) : (s.send n).lastFrame = s.lastFrame := rfl
@[simp] theorem State.send_lastMsg (n : SeqStep) : (s.send n).lastMsg = s.lastMsg := rfl
@[simp] theorem State.send_mode (n : SeqStep) : (s.send n).mode = s.mode := rfl
@[simp] theorem State.send_stream (n : SeqStep) : (s.send n).stream = s.stream := rfl
@[simp] theorem State.send_cnt (n : SeqStep) : (s.send n).cnt = s.cnt := rfl
@[simp] theorem State.send_errSticky (n : SeqStep) : (s.send n).errSticky = s.errSticky := rfl
@[simp] theorem State.send_par (n : SeqStep) : (s.send n).par = s.par := rfl
@[simp] theorem State.send_draws (n : SeqStep) : (s.send n).draws = s.draws := rfl
@[simp] theorem State.send_inbox (n : SeqStep) : (s.send n).inbox = s.inbox := rfl

/-! ### configFailed -/

@[simp] theorem State.configFailed_mode (r : FailReason) : (s.configFailed r).mode = .idle := rfl
@[simp] theorem State.configFailed_seq (r : FailReason) : (s.configFailed r).seq = { s.seq with state := .failed, failStep := some s.seq.step } := rfl
@[simp] theorem State.configFailed_errSticky (r : FailReason) : (s.configFailed r).errSticky = s.errSticky ||| Cause.configurationFailed.bit := rfl
@[simp] theorem State.configFailed_out (r : FailReason) : (s.configFailed r).out = s.out ++ [.seqFailed s.seq.step r] := rfl
@[simp] theorem State.configFailed_framer (r : FailReason) : (s.configFailed r).framer = s.framer := rfl
@[simp] theorem State.configFailed_lastFrame (r : FailReason) : (s.configFailed r).lastFrame = s.lastFrame := rfl
@[simp] theorem State.configFailed_lastMsg (r : FailReason) : (s.configFailed r).lastMsg = s.lastMsg := rfl
@[simp] theorem State.configFailed_stream (r : FailReason) : (s.configFailed r).stream = s.stream := rfl
@[simp] theorem State.configFailed_cnt (r : FailReason) : (s.configFailed r).cnt = s.cnt := rfl
@[simp] theorem State.configFailed_par (r : FailReason) : (s.configFailed r).par = s.par := rfl
@[simp] theorem State.configFailed_draws (r : FailReason) : (s.configFailed r).draws = s.draws := rfl
@[simp] theorem State.configFailed_inbox (r : FailReason) : (s.configFailed r).inbox = s.inbox := rfl

/-! ### retry -/

@[simp] theorem State.retry_out (r : FailReason) : (s.retry r).out = s.out ++ [.seqRetry s.seq.step r (s.seq.retries + 1)] ++ [.txFrame (commandFrame s.par (stepCommand s.seq.preset s.seq.step))] := rfl
@[simp] theorem State.retry_framer (r : FailReason) : (s.retry r).framer = s.framer := rfl
@[simp] theorem State.retry_lastFrame (r : FailReason) : (s.retry r).lastFrame = s.lastFrame := rfl
@[simp] theorem State.retry_lastMsg (r : FailReason) : (s.retry r).lastMsg = s.lastMsg := rfl
@[simp] theorem State.retry_mode (r : FailReason) : (s.retry r).mode = s.mode := rfl
@[simp] theorem State.retry_stream (r : FailReason) : (s.retry r).stream = s.stream := rfl
@[simp] theorem State.retry_cnt (r : FailReason) : (s.retry r).cnt = s.cnt := rfl
@[simp] theorem State.retry_errSticky (r : FailReason) : (s.retry r).errSticky = s.errSticky := rfl
@[simp] theorem State.retry_par (r : FailReason) : (s.retry r).par = s.par := rfl
@[simp] theorem State.retry_draws (r : FailReason) : (s.retry r).draws = s.draws := rfl
@[simp] theorem State.retry_inbox (r : FailReason) : (s.retry r).inbox = s.inbox := rfl

/-! ### complete -/

@[simp] theorem State.complete_mode : (s.complete).mode = .idle := rfl
@[simp] theorem State.complete_seq : (s.complete).seq = { s.seq with state := .done } := rfl
@[simp] theorem State.complete_out : (s.complete).out = s.out ++ [.seqDone] := rfl
@[simp] theorem State.complete_framer : (s.complete).framer = s.framer := rfl
@[simp] theorem State.complete_lastFrame : (s.complete).lastFrame = s.lastFrame := rfl
@[simp] theorem State.complete_lastMsg : (s.complete).lastMsg = s.lastMsg := rfl
@[simp] theorem State.complete_stream : (s.complete).stream = s.stream := rfl
@[simp] theorem State.complete_cnt : (s.complete).cnt = s.cnt := rfl
@[simp] theorem State.complete_errSticky : (s.complete).errSticky = s.errSticky := rfl
@[simp] theorem State.complete_par : (s.complete).par = s.par := rfl
@[simp] theorem State.complete_draws : (s.complete).draws = s.draws := rfl
@[simp] theorem State.complete_inbox : (s.complete).inbox = s.inbox := rfl

/-! ### enterStep -/

@[simp] theorem State.enterStep_out (n : SeqStep) : (s.enterStep n).out = s.out ++ [.txFrame (commandFrame s.par (stepCommand s.seq.preset n))] := rfl
@[simp] theorem State.enterStep_framer (n : SeqStep) : (s.enterStep n).framer = s.framer := rfl
@[simp] theorem State.enterStep_lastFrame (n : SeqStep) : (s.enterStep n).lastFrame = s.lastFrame := rfl
@[simp] theorem State.enterStep_lastMsg (n : SeqStep) : (s.enterStep n).lastMsg = s.lastMsg := rfl
@[simp] theorem State.enterStep_mode (n : SeqStep) : (s.enterStep n).mode = s.mode := rfl
@[simp] theorem State.enterStep_stream (n : SeqStep) : (s.enterStep n).stream = s.stream := rfl
@[simp] theorem State.enterStep_cnt (n : SeqStep) : (s.enterStep n).cnt = s.cnt := rfl
@[simp] theorem State.enterStep_errSticky (n : SeqStep) : (s.enterStep n).errSticky = s.errSticky := rfl
@[simp] theorem State.enterStep_par (n : SeqStep) : (s.enterStep n).par = s.par := rfl
@[simp] theorem State.enterStep_draws (n : SeqStep) : (s.enterStep n).draws = s.draws := rfl
@[simp] theorem State.enterStep_inbox (n : SeqStep) : (s.enterStep n).inbox = s.inbox := rfl

/-! ### startSequence -/

@[simp] theorem State.startSequence_mode (p : Preset) (v : Bool) : (s.startSequence p v).mode = .startup := rfl
@[simp] theorem State.startSequence_out (p : Preset) (v : Bool) : (s.startSequence p v).out = s.out ++ [.txFrame (commandFrame s.par .setProtocolFilter)] := rfl
@[simp] theorem State.startSequence_framer (p : Preset) (v : Bool) : (s.startSequence p v).framer = s.framer := rfl
@[simp] theorem State.startSequence_lastFrame (p : Preset) (v : Bool) : (s.startSequence p v).lastFrame = s.lastFrame := rfl
@[simp] theorem State.startSequence_lastMsg (p : Preset) (v : Bool) : (s.startSequence p v).lastMsg = s.lastMsg := rfl
@[simp] theorem State.startSequence_stream (p : Preset) (v : Bool) : (s.startSequence p v).stream = s.stream := rfl
@[simp] theorem State.startSequence_cnt (p : Preset) (v : Bool) : (s.startSequence p v).cnt = s.cnt := rfl
@[simp] theorem State.startSequence_errSticky (p : Preset) (v : Bool) : (s.startSequence p v).errSticky = s.errSticky := rfl
@[simp] theorem State.startSequence_par (p : Preset) (v : Bool) : (s.startSequence p v).par = s.par := rfl
@[simp] theorem State.startSequence_draws (p : Preset) (v : Bool) : (s.startSequence p v).draws = s.draws := rfl
@[simp] theorem State.startSequence_inbox (p : Preset) (v : Bool) : (s.startSequence p v).inbox = s.inbox := rfl

/-! ### cancelSequence -/

@[simp] theorem State.cancelSequence_mode : (s.cancelSequence).mode = .idle := rfl
@[simp] theorem State.cancelSequence_seq : (s.cancelSequence).seq = { s.seq with state := .cancelled } := rfl
@[simp] theorem State.cancelSequence_errSticky : (s.cancelSequence).errSticky = s.errSticky ||| Cause.cancelled.bit := rfl
@[simp] theorem State.cancelSequence_out : (s.cancelSequence).out = s.out ++ [.seqCancelled s.seq.step] := rfl
@[simp] theorem State.cancelSequence_framer : (s.cancelSequence).framer = s.framer := rfl
@[simp] theorem State.cancelSequence_lastFrame : (s.cancelSequence).lastFrame = s.lastFrame := rfl
@[simp] theorem State.cancelSequence_lastMsg : (s.cancelSequence).lastMsg = s.lastMsg := rfl
@[simp] theorem State.cancelSequence_stream : (s.cancelSequence).stream = s.stream := rfl
@[simp] theorem State.cancelSequence_cnt : (s.cancelSequence).cnt = s.cnt := rfl
@[simp] theorem State.cancelSequence_par : (s.cancelSequence).par = s.par := rfl
@[simp] theorem State.cancelSequence_draws : (s.cancelSequence).draws = s.draws := rfl
@[simp] theorem State.cancelSequence_inbox : (s.cancelSequence).inbox = s.inbox := rfl

/-! ### publish -/

@[simp] theorem State.publish_stream (r : FixRecord) : (s.publish r).stream = { s.stream with fixOut := some r, fixSeq := s.stream.fixSeq + 1 } := rfl
@[simp] theorem State.publish_out (r : FixRecord) : (s.publish r).out = s.out ++ [.fixPublish r (s.stream.fixSeq + 1)] := rfl
@[simp] theorem State.publish_framer (r : FixRecord) : (s.publish r).framer = s.framer := rfl
@[simp] theorem State.publish_lastFrame (r : FixRecord) : (s.publish r).lastFrame = s.lastFrame := rfl
@[simp] theorem State.publish_lastMsg (r : FixRecord) : (s.publish r).lastMsg = s.lastMsg := rfl
@[simp] theorem State.publish_mode (r : FixRecord) : (s.publish r).mode = s.mode := rfl
@[simp] theorem State.publish_seq (r : FixRecord) : (s.publish r).seq = s.seq := rfl
@[simp] theorem State.publish_cnt (r : FixRecord) : (s.publish r).cnt = s.cnt := rfl
@[simp] theorem State.publish_errSticky (r : FixRecord) : (s.publish r).errSticky = s.errSticky := rfl
@[simp] theorem State.publish_par (r : FixRecord) : (s.publish r).par = s.par := rfl
@[simp] theorem State.publish_draws (r : FixRecord) : (s.publish r).draws = s.draws := rfl
@[simp] theorem State.publish_inbox (r : FixRecord) : (s.publish r).inbox = s.inbox := rfl

/-! ### stopStream -/

@[simp] theorem State.stopStream_mode (r : StopReason) : (s.stopStream r).mode = .stopped := rfl
@[simp] theorem State.stopStream_stream (r : StopReason) : (s.stopStream r).stream = { s.stream with stopReason := some r } := rfl
@[simp] theorem State.stopStream_errSticky (r : StopReason) : (s.stopStream r).errSticky = s.errSticky ||| r.cause.bit := rfl
@[simp] theorem State.stopStream_out (r : StopReason) : (s.stopStream r).out = s.out ++ [.streamStopped r] := rfl
@[simp] theorem State.stopStream_framer (r : StopReason) : (s.stopStream r).framer = s.framer := rfl
@[simp] theorem State.stopStream_lastFrame (r : StopReason) : (s.stopStream r).lastFrame = s.lastFrame := rfl
@[simp] theorem State.stopStream_lastMsg (r : StopReason) : (s.stopStream r).lastMsg = s.lastMsg := rfl
@[simp] theorem State.stopStream_seq (r : StopReason) : (s.stopStream r).seq = s.seq := rfl
@[simp] theorem State.stopStream_cnt (r : StopReason) : (s.stopStream r).cnt = s.cnt := rfl
@[simp] theorem State.stopStream_par (r : StopReason) : (s.stopStream r).par = s.par := rfl
@[simp] theorem State.stopStream_draws (r : StopReason) : (s.stopStream r).draws = s.draws := rfl
@[simp] theorem State.stopStream_inbox (r : StopReason) : (s.stopStream r).inbox = s.inbox := rfl

/-! ### startStream -/

@[simp] theorem State.startStream_mode : (s.startStream).mode = .stream := rfl
@[simp] theorem State.startStream_stream : (s.startStream).stream = { s.stream with rxIdle := 0, stopReason := none } := rfl
@[simp] theorem State.startStream_out : (s.startStream).out = s.out ++ [.streamStarted] := rfl
@[simp] theorem State.startStream_framer : (s.startStream).framer = s.framer := rfl
@[simp] theorem State.startStream_lastFrame : (s.startStream).lastFrame = s.lastFrame := rfl
@[simp] theorem State.startStream_lastMsg : (s.startStream).lastMsg = s.lastMsg := rfl
@[simp] theorem State.startStream_seq : (s.startStream).seq = s.seq := rfl
@[simp] theorem State.startStream_cnt : (s.startStream).cnt = s.cnt := rfl
@[simp] theorem State.startStream_errSticky : (s.startStream).errSticky = s.errSticky := rfl
@[simp] theorem State.startStream_par : (s.startStream).par = s.par := rfl
@[simp] theorem State.startStream_draws : (s.startStream).draws = s.draws := rfl
@[simp] theorem State.startStream_inbox : (s.startStream).inbox = s.inbox := rfl

/-! ### rejectFrame -/

@[simp] theorem State.rejectFrame_framer (b : Byte) : (s.rejectFrame b).framer = { s.framer with fs := .seeking, fIdx := 0, winValid := false } := rfl
@[simp] theorem State.rejectFrame_cnt (b : Byte) : (s.rejectFrame b).cnt = { s.cnt with ckErr := s.cnt.ckErr + 1 } := rfl
@[simp] theorem State.rejectFrame_errSticky (b : Byte) : (s.rejectFrame b).errSticky = s.errSticky ||| Cause.checksum.bit := rfl
@[simp] theorem State.rejectFrame_out (b : Byte) : (s.rejectFrame b).out = s.out ++ [.error (.checksum (s.framer.fCka, b) (s.framer.runA, s.framer.runB))] := rfl
@[simp] theorem State.rejectFrame_lastFrame (b : Byte) : (s.rejectFrame b).lastFrame = s.lastFrame := rfl
@[simp] theorem State.rejectFrame_lastMsg (b : Byte) : (s.rejectFrame b).lastMsg = s.lastMsg := rfl
@[simp] theorem State.rejectFrame_mode (b : Byte) : (s.rejectFrame b).mode = s.mode := rfl
@[simp] theorem State.rejectFrame_seq (b : Byte) : (s.rejectFrame b).seq = s.seq := rfl
@[simp] theorem State.rejectFrame_stream (b : Byte) : (s.rejectFrame b).stream = s.stream := rfl
@[simp] theorem State.rejectFrame_par (b : Byte) : (s.rejectFrame b).par = s.par := rfl
@[simp] theorem State.rejectFrame_draws (b : Byte) : (s.rejectFrame b).draws = s.draws := rfl
@[simp] theorem State.rejectFrame_inbox (b : Byte) : (s.rejectFrame b).inbox = s.inbox := rfl

/-! ### recordFrame -/

@[simp] theorem State.recordFrame_lastFrame (f : RawFrame) (m : DecodedMessage) : (s.recordFrame f m).lastFrame = some f := rfl
@[simp] theorem State.recordFrame_lastMsg (f : RawFrame) (m : DecodedMessage) : (s.recordFrame f m).lastMsg = some m := rfl
@[simp] theorem State.recordFrame_framer (f : RawFrame) (m : DecodedMessage) : (s.recordFrame f m).framer = s.framer := rfl
@[simp] theorem State.recordFrame_mode (f : RawFrame) (m : DecodedMessage) : (s.recordFrame f m).mode = s.mode := rfl
@[simp] theorem State.recordFrame_seq (f : RawFrame) (m : DecodedMessage) : (s.recordFrame f m).seq = s.seq := rfl
@[simp] theorem State.recordFrame_stream (f : RawFrame) (m : DecodedMessage) : (s.recordFrame f m).stream = s.stream := rfl
@[simp] theorem State.recordFrame_errSticky (f : RawFrame) (m : DecodedMessage) : (s.recordFrame f m).errSticky = s.errSticky := rfl
@[simp] theorem State.recordFrame_par (f : RawFrame) (m : DecodedMessage) : (s.recordFrame f m).par = s.par := rfl
@[simp] theorem State.recordFrame_draws (f : RawFrame) (m : DecodedMessage) : (s.recordFrame f m).draws = s.draws := rfl
@[simp] theorem State.recordFrame_inbox (f : RawFrame) (m : DecodedMessage) : (s.recordFrame f m).inbox = s.inbox := rfl
@[simp] theorem State.recordFrame_out (f : RawFrame) (m : DecodedMessage) : (s.recordFrame f m).out = s.out := rfl

/-! ### The sequencer registers after the operations that write several of them -/

@[simp] theorem State.retry_seq_state (r : FailReason) : (s.retry r).seq.state = s.seq.state := rfl
@[simp] theorem State.retry_seq_step (r : FailReason) : (s.retry r).seq.step = s.seq.step := rfl
@[simp] theorem State.retry_seq_verify (r : FailReason) : (s.retry r).seq.verify = s.seq.verify := rfl
@[simp] theorem State.retry_seq_retries (r : FailReason) : (s.retry r).seq.retries = s.seq.retries + 1 := rfl
@[simp] theorem State.retry_seq_wait (r : FailReason) : (s.retry r).seq.wait = 0 := rfl
@[simp] theorem State.retry_seq_failStep (r : FailReason) : (s.retry r).seq.failStep = s.seq.failStep := rfl
@[simp] theorem State.retry_seq_failReason (r : FailReason) : (s.retry r).seq.failReason = s.seq.failReason := rfl
@[simp] theorem State.enterStep_seq_state (n : SeqStep) : (s.enterStep n).seq.state = s.seq.state := rfl
@[simp] theorem State.enterStep_seq_step (n : SeqStep) : (s.enterStep n).seq.step = n := rfl
@[simp] theorem State.enterStep_seq_preset (n : SeqStep) : (s.enterStep n).seq.preset = s.seq.preset := rfl
@[simp] theorem State.enterStep_seq_verify (n : SeqStep) : (s.enterStep n).seq.verify = s.seq.verify := rfl
@[simp] theorem State.enterStep_seq_retries (n : SeqStep) : (s.enterStep n).seq.retries = 0 := rfl
@[simp] theorem State.enterStep_seq_wait (n : SeqStep) : (s.enterStep n).seq.wait = 0 := rfl
@[simp] theorem State.enterStep_seq_failStep (n : SeqStep) : (s.enterStep n).seq.failStep = s.seq.failStep := rfl
@[simp] theorem State.enterStep_seq_failReason (n : SeqStep) : (s.enterStep n).seq.failReason = none := rfl
@[simp] theorem State.startSequence_seq_state (p : Preset) (v : Bool) :
    (s.startSequence p v).seq.state = .await := rfl
@[simp] theorem State.startSequence_seq_step (p : Preset) (v : Bool) :
    (s.startSequence p v).seq.step = .setProtocolFilter := rfl
@[simp] theorem State.startSequence_seq_preset (p : Preset) (v : Bool) :
    (s.startSequence p v).seq.preset = p := rfl
@[simp] theorem State.startSequence_seq_verify (p : Preset) (v : Bool) :
    (s.startSequence p v).seq.verify = v := rfl
@[simp] theorem State.startSequence_seq_retries (p : Preset) (v : Bool) :
    (s.startSequence p v).seq.retries = 0 := rfl
@[simp] theorem State.startSequence_seq_wait (p : Preset) (v : Bool) :
    (s.startSequence p v).seq.wait = 0 := rfl
@[simp] theorem State.startSequence_seq_failStep (p : Preset) (v : Bool) :
    (s.startSequence p v).seq.failStep = none := rfl

end Sys2Proof.Machine
end

