-- ==== Sys2Proof/Laws/Framer.lean ====
section
/-! SUPPORT. The laws of the frame's fields, of the running checksum, of the buffer's bytes, and of the framer's next
step: which operation a byte is, by the framer's state and index. -/

namespace Sys2Proof.Machine

variable {s : State}

/-! ### The length field -/

/-- The low byte of a payload's length field. -/
theorem lowByte_payloadLength (p : List Byte) : lowByte (payloadLength p) = BitVec.ofNat 8 (p.length % 256) := by
  apply BitVec.eq_of_toNat_eq
  simp [lowByte, payloadLength]

/-- The high byte of a payload's length field. -/
theorem highByte_payloadLength (p : List Byte) : highByte (payloadLength p) = BitVec.ofNat 8 (p.length / 256) := by
  apply BitVec.eq_of_toNat_eq
  simp [highByte, payloadLength, Nat.shiftRight_eq_div_pow]
  omega

/-- The length field of a payload no longer than the field can say is its length. -/
theorem payloadLength_toNat {p : List Byte} (h : p.length ≤ 65535) : (payloadLength p).toNat = p.length := by
  simp [payloadLength]
  omega

/-- A 16-bit value is the length field of its two bytes. -/
theorem lengthField_lowByte_highByte (v : U16) : lengthField (lowByte v) (highByte v) = v := by
  apply BitVec.eq_of_getLsbD_eq
  intro i hi
  simp only [lengthField, lowByte, highByte]
  simp
  rcases Nat.lt_or_ge i 8 with h | h
  · simp [h, hi]
  · have h1 : ¬ i < 8 := by omega
    have h2 : i - 8 < 8 := by omega
    have h3 : 8 + (i - 8) = i := by omega
    simp [h1, hi, h2, h3]
    omega

/-- Putting the high byte into a length field whose high byte is 0 leaves its low byte alone. -/
theorem lengthField_parts (x : U16) (b : Byte) (h : highByte x = 0) :
    lowByte (x ||| (b.zeroExtend 16 <<< 8)) = lowByte x ∧ highByte (x ||| (b.zeroExtend 16 <<< 8)) = b := by
  constructor
  · apply BitVec.eq_of_getLsbD_eq
    intro i hi
    simp [lowByte, hi]
  · apply BitVec.eq_of_getLsbD_eq
    intro i hi
    have := congrArg (fun v => v.getLsbD i) h
    simp [highByte, hi] at this
    have h2 : 8 + i < 16 := by omega
    simp [highByte, hi, h2]
    rw [BitVec.getLsbD_eq_getElem h2] at this
    simp [this]

/-- The bytes of a length field that holds only its low byte. -/
theorem lowByte_zeroExtend (b : Byte) : lowByte (b.zeroExtend 16) = b ∧ highByte (b.zeroExtend 16) = 0 := by
  revert b
  decide

/-! ### The checksum -/

/-- One more byte is one more step of the checksum. -/
theorem compute_concat (l : List Byte) (b : Byte) : compute (l ++ [b]) = ckStep (compute l) b := by
  simp [compute]

/-! ### The buffer's bytes -/

theorem State.payload_length (s : State) (n : Nat) : (s.payload n).length = n := by
  simp [State.payload]

theorem State.payload_succ (s : State) (n : Nat) : s.payload (n + 1) = s.payload n ++ [s.payByte n] := by
  simp [State.payload, List.range_succ]

/-- The bytes of the buffer after one write. -/
theorem State.payByte_write {t : State} {n : Nat} {b : Byte} (h : t.framer.fPay = s.framer.fPay.write n b)
    (hd : t.draws = s.draws) (k : Nat) : t.payByte k = if k = n then b else s.payByte k := by
  unfold State.payByte
  rw [h, hd, Memory.read?_write]
  split <;> rfl

/-- The first bytes of the buffer after the write of the next one. -/
theorem State.payload_write {t : State} {n : Nat} {b : Byte} (h : t.framer.fPay = s.framer.fPay.write n b)
    (hd : t.draws = s.draws) : t.payload (n + 1) = s.payload n ++ [b] := by
  rw [State.payload_succ, State.payByte_write h hd, if_pos rfl]
  congr 1
  apply List.map_congr_left
  intro k hk
  rw [State.payByte_write h hd, if_neg (by simp at hk; omega)]

/-! ### Which operation a byte is -/

theorem State.framerByte_seeking {b : Byte} (h : s.framer.fs = .seeking) : s.framerByte b = .next (s.seek b) := by
  simp only [State.framerByte, h]

theorem State.framerByte_envelope {b : Byte} (h : s.framer.fs = .envelope) : s.framerByte b = s.envelope b := by
  simp only [State.framerByte, h]

theorem State.framerByte_payload {b : Byte} (h : s.framer.fs = .payload) : s.framerByte b = s.payloadByte b := by
  simp only [State.framerByte, h]

theorem State.framerByte_checksum {b : Byte} (h : s.framer.fs = .checksum) : s.framerByte b = s.checksumByte b := by
  simp only [State.framerByte, h]

theorem State.envelope_zero {b : Byte} (h : s.framer.fIdx = 0) : s.envelope b = .next (s.classByte b) := by
  unfold State.envelope
  rw [h]
  rfl

theorem State.envelope_one {b : Byte} (h : s.framer.fIdx = 1) : s.envelope b = .next (s.idByte b) := by
  unfold State.envelope
  rw [h]
  rfl

theorem State.envelope_two {b : Byte} (h : s.framer.fIdx = 2) : s.envelope b = .next (s.lengthLow b) := by
  unfold State.envelope
  rw [h]
  rfl

theorem State.envelope_three {b : Byte} (h : s.framer.fIdx = 3) : s.envelope b = .next (s.lengthHigh b) := by
  unfold State.envelope
  rw [h]
  rfl

theorem State.checksumByte_zero {b : Byte} (h : s.framer.fIdx = 0) :
    s.checksumByte b = .next (s.checksumFirst b) := by
  unfold State.checksumByte
  rw [h]
  rfl

theorem State.checksumByte_one {b : Byte} (h : s.framer.fIdx = 1) : s.checksumByte b = s.checksumSecond b := by
  unfold State.checksumByte
  rw [h]
  rfl

/-! ### Power-on -/

/-- The buffer's cells at power-on are canonical. -/
theorem State.reset_fPay_wf : State.reset.framer.fPay.wf := List.Pairwise.nil

/-- The parameters of this hardware are legal. -/
theorem Params.hardware_wf : Params.hardware.wf = true := by
  have := Config.ackTimeoutLessOne.isLt
  have := Config.rxTimeoutLessOne.isLt
  simp only [Params.wf, Params.hardware, BitVec.toNat_ofNat, Bool.and_eq_true, decide_eq_true_eq,
    show (2 : Nat) ^ 32 = 4294967296 from rfl]
  rw [Nat.mod_eq_of_lt (by omega), Nat.mod_eq_of_lt (by omega)]
  simp

end Sys2Proof.Machine
end

