-- ==== Sys2Proof/Laws/Ops.lean ====
section
/-! SUPPORT. What the branching operations leave alone, and one inversion lemma for each: everything the operation can
do. Later proofs cite these and do not unfold the operations. -/

namespace Sys2Proof.Machine

variable (s : State)

/-! ### noteByte -/

@[simp] theorem State.noteByte_framer : (s.noteByte).framer = s.framer := by
  unfold State.noteByte; split <;> rfl
@[simp] theorem State.noteByte_lastFrame : (s.noteByte).lastFrame = s.lastFrame := by
  unfold State.noteByte; split <;> rfl
@[simp] theorem State.noteByte_lastMsg : (s.noteByte).lastMsg = s.lastMsg := by
  unfold State.noteByte; split <;> rfl
@[simp] theorem State.noteByte_mode : (s.noteByte).mode = s.mode := by
  unfold State.noteByte; split <;> rfl
@[simp] theorem State.noteByte_seq : (s.noteByte).seq = s.seq := by
  unfold State.noteByte; split <;> rfl
@[simp] theorem State.noteByte_cnt : (s.noteByte).cnt = s.cnt := by
  unfold State.noteByte; split <;> rfl
@[simp] theorem State.noteByte_errSticky : (s.noteByte).errSticky = s.errSticky := by
  unfold State.noteByte; split <;> rfl
@[simp] theorem State.noteByte_par : (s.noteByte).par = s.par := by
  unfold State.noteByte; split <;> rfl
@[simp] theorem State.noteByte_draws : (s.noteByte).draws = s.draws := by
  unfold State.noteByte; split <;> rfl
@[simp] theorem State.noteByte_inbox : (s.noteByte).inbox = s.inbox := by
  unfold State.noteByte; split <;> rfl
@[simp] theorem State.noteByte_out : (s.noteByte).out = s.out := by
  unfold State.noteByte; split <;> rfl
@[simp] theorem State.noteByte_stream :
    s.noteByte.stream = { s.stream with rxIdle := if s.mode = .stream then 0 else s.stream.rxIdle } := by
  unfold State.noteByte; split <;> simp_all

/-! ### checkRate -/

@[simp] theorem State.checkRate_framer : (s.checkRate).framer = s.framer := by
  unfold State.checkRate; split <;> (try split) <;> rfl
@[simp] theorem State.checkRate_lastFrame : (s.checkRate).lastFrame = s.lastFrame := by
  unfold State.checkRate; split <;> (try split) <;> rfl
@[simp] theorem State.checkRate_lastMsg : (s.checkRate).lastMsg = s.lastMsg := by
  unfold State.checkRate; split <;> (try split) <;> rfl
@[simp] theorem State.checkRate_mode : (s.checkRate).mode = s.mode := by
  unfold State.checkRate; split <;> (try split) <;> rfl
@[simp] theorem State.checkRate_stream : (s.checkRate).stream = s.stream := by
  unfold State.checkRate; split <;> (try split) <;> rfl
@[simp] theorem State.checkRate_cnt : (s.checkRate).cnt = s.cnt := by
  unfold State.checkRate; split <;> (try split) <;> rfl
@[simp] theorem State.checkRate_errSticky : (s.checkRate).errSticky = s.errSticky := by
  unfold State.checkRate; split <;> (try split) <;> rfl
@[simp] theorem State.checkRate_par : (s.checkRate).par = s.par := by
  unfold State.checkRate; split <;> (try split) <;> rfl
@[simp] theorem State.checkRate_draws : (s.checkRate).draws = s.draws := by
  unfold State.checkRate; split <;> (try split) <;> rfl
@[simp] theorem State.checkRate_inbox : (s.checkRate).inbox = s.inbox := by
  unfold State.checkRate; split <;> (try split) <;> rfl

/-! ### checkMsg -/

@[simp] theorem State.checkMsg_framer : (s.checkMsg).framer = s.framer := by
  unfold State.checkMsg; split <;> (try split) <;> rfl
@[simp] theorem State.checkMsg_lastFrame : (s.checkMsg).lastFrame = s.lastFrame := by
  unfold State.checkMsg; split <;> (try split) <;> rfl
@[simp] theorem State.checkMsg_lastMsg : (s.checkMsg).lastMsg = s.lastMsg := by
  unfold State.checkMsg; split <;> (try split) <;> rfl
@[simp] theorem State.checkMsg_mode : (s.checkMsg).mode = s.mode := by
  unfold State.checkMsg; split <;> (try split) <;> rfl
@[simp] theorem State.checkMsg_stream : (s.checkMsg).stream = s.stream := by
  unfold State.checkMsg; split <;> (try split) <;> rfl
@[simp] theorem State.checkMsg_cnt : (s.checkMsg).cnt = s.cnt := by
  unfold State.checkMsg; split <;> (try split) <;> rfl
@[simp] theorem State.checkMsg_errSticky : (s.checkMsg).errSticky = s.errSticky := by
  unfold State.checkMsg; split <;> (try split) <;> rfl
@[simp] theorem State.checkMsg_par : (s.checkMsg).par = s.par := by
  unfold State.checkMsg; split <;> (try split) <;> rfl
@[simp] theorem State.checkMsg_draws : (s.checkMsg).draws = s.draws := by
  unfold State.checkMsg; split <;> (try split) <;> rfl
@[simp] theorem State.checkMsg_inbox : (s.checkMsg).inbox = s.inbox := by
  unfold State.checkMsg; split <;> (try split) <;> rfl

/-! ### checkReadback -/

@[simp] theorem State.checkReadback_framer : (s.checkReadback).framer = s.framer := by
  unfold State.checkReadback; split <;> simp
@[simp] theorem State.checkReadback_lastFrame : (s.checkReadback).lastFrame = s.lastFrame := by
  unfold State.checkReadback; split <;> simp
@[simp] theorem State.checkReadback_lastMsg : (s.checkReadback).lastMsg = s.lastMsg := by
  unfold State.checkReadback; split <;> simp
@[simp] theorem State.checkReadback_mode : (s.checkReadback).mode = s.mode := by
  unfold State.checkReadback; split <;> simp
@[simp] theorem State.checkReadback_stream : (s.checkReadback).stream = s.stream := by
  unfold State.checkReadback; split <;> simp
@[simp] theorem State.checkReadback_cnt : (s.checkReadback).cnt = s.cnt := by
  unfold State.checkReadback; split <;> simp
@[simp] theorem State.checkReadback_errSticky : (s.checkReadback).errSticky = s.errSticky := by
  unfold State.checkReadback; split <;> simp
@[simp] theorem State.checkReadback_par : (s.checkReadback).par = s.par := by
  unfold State.checkReadback; split <;> simp
@[simp] theorem State.checkReadback_draws : (s.checkReadback).draws = s.draws := by
  unfold State.checkReadback; split <;> simp
@[simp] theorem State.checkReadback_inbox : (s.checkReadback).inbox = s.inbox := by
  unfold State.checkReadback; split <;> simp
@[simp] theorem State.checkReadback_seq_state : s.checkReadback.seq.state = s.seq.state := by
  unfold State.checkReadback State.checkRate State.checkMsg
  split <;> (try split) <;> (try split) <;> rfl
@[simp] theorem State.checkReadback_seq_step : s.checkReadback.seq.step = s.seq.step := by
  unfold State.checkReadback State.checkRate State.checkMsg
  split <;> (try split) <;> (try split) <;> rfl
@[simp] theorem State.checkReadback_seq_preset : s.checkReadback.seq.preset = s.seq.preset := by
  unfold State.checkReadback State.checkRate State.checkMsg
  split <;> (try split) <;> (try split) <;> rfl
@[simp] theorem State.checkReadback_seq_verify : s.checkReadback.seq.verify = s.seq.verify := by
  unfold State.checkReadback State.checkRate State.checkMsg
  split <;> (try split) <;> (try split) <;> rfl
@[simp] theorem State.checkReadback_seq_retries : s.checkReadback.seq.retries = s.seq.retries := by
  unfold State.checkReadback State.checkRate State.checkMsg
  split <;> (try split) <;> (try split) <;> rfl
@[simp] theorem State.checkReadback_seq_wait : s.checkReadback.seq.wait = s.seq.wait := by
  unfold State.checkReadback State.checkRate State.checkMsg
  split <;> (try split) <;> (try split) <;> rfl
@[simp] theorem State.checkReadback_seq_failStep : s.checkReadback.seq.failStep = s.seq.failStep := by
  unfold State.checkReadback State.checkRate State.checkMsg
  split <;> (try split) <;> (try split) <;> rfl
@[simp] theorem State.checkReadback_seq_failReason : s.checkReadback.seq.failReason = s.seq.failReason := by
  unfold State.checkReadback State.checkRate State.checkMsg
  split <;> (try split) <;> (try split) <;> rfl
@[simp] theorem State.checkReadback_seq_rbRate : s.checkReadback.seq.rbRate = s.seq.rbRate := by
  unfold State.checkReadback State.checkRate State.checkMsg
  split <;> (try split) <;> (try split) <;> rfl
@[simp] theorem State.checkReadback_seq_rbMsg : s.checkReadback.seq.rbMsg = s.seq.rbMsg := by
  unfold State.checkReadback State.checkRate State.checkMsg
  split <;> (try split) <;> (try split) <;> rfl

/-- All that the check of a step's read-back can do. -/
theorem State.checkReadback_cases :
    (s.checkReadback.out = s.out) ∨
    (∃ k b, s.seq.step = .pollRate ∧ s.checkReadback.out = s.out ++ [.seqWarning .pollRate k b]) ∨
    (∃ k b, s.seq.step = .pollFixConfig ∧ s.checkReadback.out = s.out ++ [.seqWarning .pollFixConfig k b]) := by
  unfold State.checkReadback State.checkRate State.checkMsg
  split <;> (try split) <;> (try split) <;> simp_all

/-- Steps other than the polls have no read-back to check. -/
theorem State.checkReadback_of_not_poll (h1 : s.seq.step ≠ .pollRate) (h2 : s.seq.step ≠ .pollFixConfig) :
    s.checkReadback = s := by
  unfold State.checkReadback
  split <;> simp_all

/-! ### advance -/

@[simp] theorem State.advance_framer : (s.advance).framer = s.framer := by
  unfold State.advance; split <;> simp
@[simp] theorem State.advance_lastFrame : (s.advance).lastFrame = s.lastFrame := by
  unfold State.advance; split <;> simp
@[simp] theorem State.advance_lastMsg : (s.advance).lastMsg = s.lastMsg := by
  unfold State.advance; split <;> simp
@[simp] theorem State.advance_stream : (s.advance).stream = s.stream := by
  unfold State.advance; split <;> simp
@[simp] theorem State.advance_cnt : (s.advance).cnt = s.cnt := by
  unfold State.advance; split <;> simp
@[simp] theorem State.advance_errSticky : (s.advance).errSticky = s.errSticky := by
  unfold State.advance; split <;> simp
@[simp] theorem State.advance_par : (s.advance).par = s.par := by
  unfold State.advance; split <;> simp
@[simp] theorem State.advance_draws : (s.advance).draws = s.draws := by
  unfold State.advance; split <;> simp
@[simp] theorem State.advance_inbox : (s.advance).inbox = s.inbox := by
  unfold State.advance; split <;> simp
/-- All that follows an acknowledged step. -/
theorem State.advance_cases :
    (∃ n, nextStep s.seq.verify s.seq.step = some n ∧ s.advance = s.enterStep n) ∨
    (nextStep s.seq.verify s.seq.step = none ∧ s.advance = s.complete) := by
  unfold State.advance
  split <;> simp_all

/-! ### stepOk -/

@[simp] theorem State.stepOk_framer : (s.stepOk).framer = s.framer := by
  unfold State.stepOk; simp
@[simp] theorem State.stepOk_lastFrame : (s.stepOk).lastFrame = s.lastFrame := by
  unfold State.stepOk; simp
@[simp] theorem State.stepOk_lastMsg : (s.stepOk).lastMsg = s.lastMsg := by
  unfold State.stepOk; simp
@[simp] theorem State.stepOk_stream : (s.stepOk).stream = s.stream := by
  unfold State.stepOk; simp
@[simp] theorem State.stepOk_cnt : (s.stepOk).cnt = s.cnt := by
  unfold State.stepOk; simp
@[simp] theorem State.stepOk_errSticky : (s.stepOk).errSticky = s.errSticky := by
  unfold State.stepOk; simp
@[simp] theorem State.stepOk_par : (s.stepOk).par = s.par := by
  unfold State.stepOk; simp
@[simp] theorem State.stepOk_draws : (s.stepOk).draws = s.draws := by
  unfold State.stepOk; simp
@[simp] theorem State.stepOk_inbox : (s.stepOk).inbox = s.inbox := by
  unfold State.stepOk; simp
/-- All that an acknowledged step can do. -/
theorem State.stepOk_cases :
    (∃ n, nextStep s.seq.verify s.seq.step = some n ∧
      s.stepOk = (s.checkReadback.emit (.seqStepOk s.seq.step)).enterStep n) ∨
    (nextStep s.seq.verify s.seq.step = none ∧
      s.stepOk = (s.checkReadback.emit (.seqStepOk s.seq.step)).complete) := by
  unfold State.stepOk
  rcases State.advance_cases (s.checkReadback.emit (.seqStepOk s.seq.step)) with ⟨n, h, e⟩ | ⟨h, e⟩
  · exact .inl ⟨n, by simpa using h, e⟩
  · exact .inr ⟨by simpa using h, e⟩

/-! ### stepFailed -/

@[simp] theorem State.stepFailed_framer (r : FailReason) : (s.stepFailed r).framer = s.framer := by
  unfold State.stepFailed; simp only []; split <;> simp
@[simp] theorem State.stepFailed_lastFrame (r : FailReason) : (s.stepFailed r).lastFrame = s.lastFrame := by
  unfold State.stepFailed; simp only []; split <;> simp
@[simp] theorem State.stepFailed_lastMsg (r : FailReason) : (s.stepFailed r).lastMsg = s.lastMsg := by
  unfold State.stepFailed; simp only []; split <;> simp
@[simp] theorem State.stepFailed_stream (r : FailReason) : (s.stepFailed r).stream = s.stream := by
  unfold State.stepFailed; simp only []; split <;> simp
@[simp] theorem State.stepFailed_cnt (r : FailReason) : (s.stepFailed r).cnt = s.cnt := by
  unfold State.stepFailed; simp only []; split <;> simp
@[simp] theorem State.stepFailed_par (r : FailReason) : (s.stepFailed r).par = s.par := by
  unfold State.stepFailed; simp only []; split <;> simp
@[simp] theorem State.stepFailed_draws (r : FailReason) : (s.stepFailed r).draws = s.draws := by
  unfold State.stepFailed; simp only []; split <;> simp
@[simp] theorem State.stepFailed_inbox (r : FailReason) : (s.stepFailed r).inbox = s.inbox := by
  unfold State.stepFailed; simp only []; split <;> simp
/-- All that a failed step can do. -/
theorem State.stepFailed_cases (r : FailReason) :
    (s.seq.retries < 1 ∧
      s.stepFailed r = (State.raise r.cause { s with seq.failReason := some r }).retry r) ∨
    (1 ≤ s.seq.retries ∧
      s.stepFailed r = (State.raise r.cause { s with seq.failReason := some r }).configFailed r) := by
  unfold State.stepFailed retryLimit
  by_cases h : s.seq.retries < 1
  · exact .inl ⟨h, by simp [h]⟩
  · exact .inr ⟨by omega, by simp [h]⟩

/-! ### seqOnMsg -/

@[simp] theorem State.seqOnMsg_framer (m : DecodedMessage) : (s.seqOnMsg m).framer = s.framer := by
  unfold State.seqOnMsg; split <;> (try split) <;> simp
@[simp] theorem State.seqOnMsg_lastFrame (m : DecodedMessage) : (s.seqOnMsg m).lastFrame = s.lastFrame := by
  unfold State.seqOnMsg; split <;> (try split) <;> simp
@[simp] theorem State.seqOnMsg_lastMsg (m : DecodedMessage) : (s.seqOnMsg m).lastMsg = s.lastMsg := by
  unfold State.seqOnMsg; split <;> (try split) <;> simp
@[simp] theorem State.seqOnMsg_stream (m : DecodedMessage) : (s.seqOnMsg m).stream = s.stream := by
  unfold State.seqOnMsg; split <;> (try split) <;> simp
@[simp] theorem State.seqOnMsg_cnt (m : DecodedMessage) : (s.seqOnMsg m).cnt = s.cnt := by
  unfold State.seqOnMsg; split <;> (try split) <;> simp
@[simp] theorem State.seqOnMsg_par (m : DecodedMessage) : (s.seqOnMsg m).par = s.par := by
  unfold State.seqOnMsg; split <;> (try split) <;> simp
@[simp] theorem State.seqOnMsg_draws (m : DecodedMessage) : (s.seqOnMsg m).draws = s.draws := by
  unfold State.seqOnMsg; split <;> (try split) <;> simp
@[simp] theorem State.seqOnMsg_inbox (m : DecodedMessage) : (s.seqOnMsg m).inbox = s.inbox := by
  unfold State.seqOnMsg; split <;> (try split) <;> simp
/-- All that a message can do while the sequencer runs. -/
theorem State.seqOnMsg_cases (m : DecodedMessage) :
    (s.seqOnMsg m = s) ∨
    (∃ a, m = .ack a ∧ (a.echoedClass, a.echoedId) = stepKey s.seq.step ∧ s.seqOnMsg m = s.stepOk) ∨
    (∃ a, m = .nack a ∧ (a.echoedClass, a.echoedId) = stepKey s.seq.step ∧
      s.seqOnMsg m = s.stepFailed .nackReceived) ∨
    (∃ c, m = .rateConfig c ∧ s.seq.step = .pollRate ∧ s.seqOnMsg m = { s with seq.rbRate := some c }) ∨
    (∃ x, m = .msgEnableConfig x ∧ s.seq.step = .pollFixConfig ∧ x.msgClass = 0x01 ∧ x.msgId = 0x07 ∧
      s.seqOnMsg m = { s with seq.rbMsg := some x }) := by
  unfold State.seqOnMsg
  split <;> (try split) <;> simp_all

/-! ### route -/

@[simp] theorem State.route_framer (m : DecodedMessage) : (s.route m).framer = s.framer := by
  unfold State.route; split <;> (try split) <;> simp
@[simp] theorem State.route_lastFrame (m : DecodedMessage) : (s.route m).lastFrame = s.lastFrame := by
  unfold State.route; split <;> (try split) <;> simp
@[simp] theorem State.route_lastMsg (m : DecodedMessage) : (s.route m).lastMsg = s.lastMsg := by
  unfold State.route; split <;> (try split) <;> simp
@[simp] theorem State.route_cnt (m : DecodedMessage) : (s.route m).cnt = s.cnt := by
  unfold State.route; split <;> (try split) <;> simp
@[simp] theorem State.route_par (m : DecodedMessage) : (s.route m).par = s.par := by
  unfold State.route; split <;> (try split) <;> simp
@[simp] theorem State.route_draws (m : DecodedMessage) : (s.route m).draws = s.draws := by
  unfold State.route; split <;> (try split) <;> simp
@[simp] theorem State.route_inbox (m : DecodedMessage) : (s.route m).inbox = s.inbox := by
  unfold State.route; split <;> (try split) <;> simp
/-- All that routing a message can do. -/
theorem State.route_cases (m : DecodedMessage) :
    (s.route m = s) ∨
    (s.mode = .startup ∧ s.route m = s.seqOnMsg m) ∨
    (s.mode = .stream ∧ ∃ r, m = .fixRecord r ∧ s.route m = s.publish r) := by
  unfold State.route
  split <;> (try split) <;> simp_all

/-! ### The framer's steps -/

/-- All that the length check can do. -/
theorem State.checkLength_cases (len : U16) :
    (s.par.maxPayload < len.toNat ∧ s.checkLength len =
      (State.raise .framingLength { s with cnt.lenErr := s.cnt.lenErr + 1 }).enterSeeking) ∨
    (len = 0 ∧ len.toNat ≤ s.par.maxPayload ∧
      s.checkLength len = { s with framer.fs := .checksum, framer.fIdx := 0 }) ∨
    (len ≠ 0 ∧ len.toNat ≤ s.par.maxPayload ∧
      s.checkLength len = { s with framer.fs := .payload, framer.fIdx := 0 }) := by
  unfold State.checkLength
  by_cases h : s.par.maxPayload < len.toNat
  · exact .inl ⟨h, by simp [h]⟩
  · by_cases h0 : len = 0
    · exact .inr (.inl ⟨h0, by omega, by rw [if_neg h, if_pos h0]⟩)
    · exact .inr (.inr ⟨h0, by omega, by rw [if_neg h, if_neg h0]⟩)

@[simp] theorem State.acceptFrame_framer (f : RawFrame) (m : DecodedMessage) :
    (s.acceptFrame f m).framer = { s.framer with fs := .seeking, fIdx := 0, winValid := false } := by
  simp [State.acceptFrame]
@[simp] theorem State.acceptFrame_lastFrame (f : RawFrame) (m : DecodedMessage) :
    (s.acceptFrame f m).lastFrame = some f := by
  simp [State.acceptFrame]
@[simp] theorem State.acceptFrame_lastMsg (f : RawFrame) (m : DecodedMessage) :
    (s.acceptFrame f m).lastMsg = some m := by
  simp [State.acceptFrame]
@[simp] theorem State.acceptFrame_cnt (f : RawFrame) (m : DecodedMessage) :
    (s.acceptFrame f m).cnt = (s.recordFrame f m).cnt := by
  simp [State.acceptFrame]
@[simp] theorem State.acceptFrame_par (f : RawFrame) (m : DecodedMessage) :
    (s.acceptFrame f m).par = s.par := by
  simp [State.acceptFrame]
@[simp] theorem State.acceptFrame_draws (f : RawFrame) (m : DecodedMessage) :
    (s.acceptFrame f m).draws = s.draws := by
  simp [State.acceptFrame]
@[simp] theorem State.acceptFrame_inbox (f : RawFrame) (m : DecodedMessage) :
    (s.acceptFrame f m).inbox = s.inbox := by
  simp [State.acceptFrame]

/-- All that the framer can do with a byte, by its state and its index (43_framer.md R180 to R187). -/
theorem State.framerByte_cases {b : Byte} {t : State} (h : s.framerByte b = .next t) :
    (s.framer.fs = .seeking ∧ t = s.seek b) ∨
    (s.framer.fs = .envelope ∧ s.framer.fIdx = 0 ∧ t = s.classByte b) ∨
    (s.framer.fs = .envelope ∧ s.framer.fIdx = 1 ∧ t = s.idByte b) ∨
    (s.framer.fs = .envelope ∧ s.framer.fIdx = 2 ∧ t = s.lengthLow b) ∨
    (s.framer.fs = .envelope ∧ s.framer.fIdx = 3 ∧ t = s.lengthHigh b) ∨
    (s.framer.fs = .payload ∧ s.framer.fIdx.toNat < s.par.maxPayload ∧
      t = { (({ s with framer.fPay := s.framer.fPay.write s.framer.fIdx.toNat b } : State).ckByte b) with
        framer.fs := if s.framer.fIdx + 1 = s.framer.fLen then .checksum else .payload
        framer.fIdx := if s.framer.fIdx + 1 = s.framer.fLen then 0 else s.framer.fIdx + 1 }) ∨
    (s.framer.fs = .checksum ∧ s.framer.fIdx = 0 ∧ t = s.checksumFirst b) ∨
    (s.framer.fs = .checksum ∧ s.framer.fIdx = 1 ∧ s.framer.fLen.toNat ≤ s.par.maxPayload ∧
      s.framer.fCka = s.framer.runA ∧ b = s.framer.runB ∧
      t = s.acceptFrame
        { cls := s.framer.fClass, id := s.framer.fId, length := s.framer.fLen,
          payload := s.payload s.framer.fLen.toNat, checksumA := s.framer.fCka, checksumB := b }
        (decodePayload s.par s.framer.fClass s.framer.fId (s.payload s.framer.fLen.toNat))) ∨
    (s.framer.fs = .checksum ∧ s.framer.fIdx = 1 ∧ s.framer.fLen.toNat ≤ s.par.maxPayload ∧
      ¬ (s.framer.fCka = s.framer.runA ∧ b = s.framer.runB) ∧ t = s.rejectFrame b) := by
  have idx : ∀ n : Nat, n < 65536 → s.framer.fIdx.toNat = n → s.framer.fIdx = BitVec.ofNat 16 n := by
    intro n hn he
    apply BitVec.eq_of_toNat_eq
    simp [he, Nat.mod_eq_of_lt hn]
  unfold State.framerByte at h
  split at h
  · cases h; exact .inl ⟨‹_›, rfl⟩
  · unfold State.envelope at h
    split at h
    · cases h; exact .inr (.inl ⟨‹_›, idx 0 (by omega) ‹_›, rfl⟩)
    · cases h; exact .inr (.inr (.inl ⟨‹_›, idx 1 (by omega) ‹_›, rfl⟩))
    · cases h; exact .inr (.inr (.inr (.inl ⟨‹_›, idx 2 (by omega) ‹_›, rfl⟩)))
    · cases h; exact .inr (.inr (.inr (.inr (.inl ⟨‹_›, idx 3 (by omega) ‹_›, rfl⟩))))
    · cases h
  · unfold State.payloadByte at h
    split at h
    · refine .inr (.inr (.inr (.inr (.inr (.inl ⟨‹_›, ‹_›, ?_⟩)))))
      by_cases hl : s.framer.fIdx + 1 = s.framer.fLen
      · simp only [hl, if_true] at h ⊢
        cases h; rfl
      · simp only [hl, if_false] at h ⊢
        cases h
        simp_all [State.ckByte]
    · cases h
  · unfold State.checksumByte at h
    split at h
    · cases h; exact .inr (.inr (.inr (.inr (.inr (.inr (.inl ⟨‹_›, idx 0 (by omega) ‹_›, rfl⟩))))))
    · unfold State.checksumSecond at h
      split at h
      · dsimp only at h
        split at h
        · rename_i hc
          cases h
          exact .inr (.inr (.inr (.inr (.inr (.inr (.inr (.inl
            ⟨‹_›, idx 1 (by omega) ‹_›, ‹_›, hc.1, hc.2, rfl⟩)))))))
        · cases h
          exact .inr (.inr (.inr (.inr (.inr (.inr (.inr (.inr
            ⟨‹_›, idx 1 (by omega) ‹_›, ‹_›, ‹_›, rfl⟩)))))))
      · cases h
    · cases h

/-- What a byte does outside the framer's own registers: nothing, a counted length error, a hand-off, or a counted
checksum error. -/
theorem State.framerByte_effect {b : Byte} {t : State} (h : s.framerByte b = .next t) :
    (t = { s with framer := t.framer }) ∨
    (t = { s with
      framer := t.framer, cnt.lenErr := s.cnt.lenErr + 1,
      errSticky := s.errSticky ||| Cause.framingLength.bit }) ∨
    (s.framer.fs = .checksum ∧ ∃ f m, t = s.acceptFrame f m) ∨
    (s.framer.fs = .checksum ∧ t = s.rejectFrame b) := by
  rcases s.framerByte_cases h with ⟨_, rfl⟩ | ⟨_, _, rfl⟩ | ⟨_, _, rfl⟩ | ⟨_, _, rfl⟩ | ⟨_, _, rfl⟩ | ⟨_, _, rfl⟩ |
    ⟨_, _, rfl⟩ | ⟨h1, _, _, _, _, rfl⟩ | ⟨h1, _, _, _, rfl⟩
  · left
    unfold State.seek
    split <;> rfl
  · exact .inl rfl
  · exact .inl rfl
  · exact .inl rfl
  · unfold State.lengthHigh
    rcases State.checkLength_cases (({ s with framer.fLen := s.framer.fLen ||| (b.zeroExtend 16 <<< 8) } :
      State).ckByte b) (s.framer.fLen ||| (b.zeroExtend 16 <<< 8)) with ⟨_, e⟩ | ⟨_, _, e⟩ | ⟨_, _, e⟩
    · right; left; simp only [e]; rfl
    · left; simp only [e]; rfl
    · left; simp only [e]; rfl
  · exact .inl rfl
  · exact .inl rfl
  · exact .inr (.inr (.inl ⟨h1, _, _, rfl⟩))
  · exact .inr (.inr (.inr ⟨h1, rfl⟩))

end Sys2Proof.Machine
end

