-- ==== Sys2Proof/Laws/PerInstr.lean ====
section
/-! SUPPORT. Laws stated of every instruction of the table, one lemma per constructor. -/

namespace Sys2Proof.Laws

/-- How many bytes an instruction takes on the wire (30_encoding.md R80, R91; 43_framer.md R184); none for an input
event, which is no wire message (R95). -/
def wireSize : Instr → Option Nat
  | .rxByte _ => none
  | .rxError => none
  | .tick => none
  | .startSeq _ _ => none
  | .startStream => none
  | .cancel => none
  | .reset => none
  | .illegalOp0 _ => none
  | .illegalOpHigh _ => none
  | .illegalRxByte _ => none
  | .illegalRxError _ => none
  | .illegalTick _ => none
  | .illegalStartSeq _ => none
  | .illegalStartStream _ => none
  | .illegalCancel _ => none
  | .illegalReset _ => none
  | .txSetProtocolFilter => some 28
  | .txSetRate4x2 => some 14
  | .txSetRate2x1 => some 14
  | .txEnableFixOutput => some 11
  | .txPollRate => some 8
  | .txPollFixConfig => some 10
  | .rxFixRecord p => some (p.length + 8)
  | .rxRateConfig p => some (p.length + 8)
  | .rxMsgEnableConfig p => some (p.length + 8)
  | .rxAck p => some (p.length + 8)
  | .rxNack p => some (p.length + 8)
  | .rxUnrecognized _ _ p => some (p.length + 8)
  | .rxOverlongFrame _ _ _ => some 6

/-- The encoding of an instruction is an event word, or as many bytes as `wireSize` says. -/
def EncodedSize.Statement (i : Instr) : Prop :=
  ∀ par : Params,
    match encode par i with
    | .event _ => wireSize i = none
    | .inbound bytes => wireSize i = some bytes.length
    | .outbound bytes => wireSize i = some bytes.length

/-- A frame is its payload and eight bytes more (30_encoding.md R80). -/
theorem frame_length (c i : Byte) (p : List Byte) : (Machine.frame c i p).length = p.length + 8 := by
  simp [Machine.frame, Machine.frameBody]

theorem EncodedSize.rxByte (b : Byte) : EncodedSize.Statement (.rxByte b) :=
  fun _ => rfl

theorem EncodedSize.rxError : EncodedSize.Statement (.rxError) :=
  fun _ => rfl

theorem EncodedSize.tick : EncodedSize.Statement (.tick) :=
  fun _ => rfl

theorem EncodedSize.startSeq (p : Preset) (v : Bool) : EncodedSize.Statement (.startSeq p v) :=
  fun _ => rfl

theorem EncodedSize.startStream : EncodedSize.Statement (.startStream) :=
  fun _ => rfl

theorem EncodedSize.cancel : EncodedSize.Statement (.cancel) :=
  fun _ => rfl

theorem EncodedSize.reset : EncodedSize.Statement (.reset) :=
  fun _ => rfl

theorem EncodedSize.illegalOp0 (data : BitVec 12) : EncodedSize.Statement (.illegalOp0 data) :=
  fun _ => rfl

theorem EncodedSize.illegalOpHigh (low : BitVec 15) : EncodedSize.Statement (.illegalOpHigh low) :=
  fun _ => rfl

theorem EncodedSize.illegalRxByte (data : BitVec 12) : EncodedSize.Statement (.illegalRxByte data) :=
  fun _ => rfl

theorem EncodedSize.illegalRxError (data : BitVec 12) : EncodedSize.Statement (.illegalRxError data) :=
  fun _ => rfl

theorem EncodedSize.illegalTick (data : BitVec 12) : EncodedSize.Statement (.illegalTick data) :=
  fun _ => rfl

theorem EncodedSize.illegalStartSeq (data : BitVec 12) : EncodedSize.Statement (.illegalStartSeq data) :=
  fun _ => rfl

theorem EncodedSize.illegalStartStream (data : BitVec 12) : EncodedSize.Statement (.illegalStartStream data) :=
  fun _ => rfl

theorem EncodedSize.illegalCancel (data : BitVec 12) : EncodedSize.Statement (.illegalCancel data) :=
  fun _ => rfl

theorem EncodedSize.illegalReset (data : BitVec 12) : EncodedSize.Statement (.illegalReset data) :=
  fun _ => rfl

theorem EncodedSize.txSetProtocolFilter : EncodedSize.Statement (.txSetProtocolFilter) := by
  intro par
  simp [encode, wireSize, frame_length, Machine.commandFrame, Machine.commandPayload]

theorem EncodedSize.txSetRate4x2 : EncodedSize.Statement (.txSetRate4x2) := by
  intro par
  simp [encode, wireSize, frame_length, Machine.commandFrame, Machine.commandPayload]

theorem EncodedSize.txSetRate2x1 : EncodedSize.Statement (.txSetRate2x1) := by
  intro par
  simp [encode, wireSize, frame_length, Machine.commandFrame, Machine.commandPayload]

theorem EncodedSize.txEnableFixOutput : EncodedSize.Statement (.txEnableFixOutput) := by
  intro par
  simp [encode, wireSize, frame_length, Machine.commandFrame, Machine.commandPayload]

theorem EncodedSize.txPollRate : EncodedSize.Statement (.txPollRate) := by
  intro par
  simp [encode, wireSize, frame_length, Machine.commandFrame, Machine.commandPayload]

theorem EncodedSize.txPollFixConfig : EncodedSize.Statement (.txPollFixConfig) := by
  intro par
  simp [encode, wireSize, frame_length, Machine.commandFrame, Machine.commandPayload]

theorem EncodedSize.rxFixRecord (payload : List Byte) : EncodedSize.Statement (.rxFixRecord payload) := by
  intro par
  simp [encode, wireSize, frame_length]

theorem EncodedSize.rxRateConfig (payload : List Byte) : EncodedSize.Statement (.rxRateConfig payload) := by
  intro par
  simp [encode, wireSize, frame_length]

theorem EncodedSize.rxMsgEnableConfig (payload : List Byte) : EncodedSize.Statement (.rxMsgEnableConfig payload) := by
  intro par
  simp [encode, wireSize, frame_length]

theorem EncodedSize.rxAck (payload : List Byte) : EncodedSize.Statement (.rxAck payload) := by
  intro par
  simp [encode, wireSize, frame_length]

theorem EncodedSize.rxNack (payload : List Byte) : EncodedSize.Statement (.rxNack payload) := by
  intro par
  simp [encode, wireSize, frame_length]

theorem EncodedSize.rxUnrecognized (cls id : Byte) (payload : List Byte) : EncodedSize.Statement (.rxUnrecognized cls id payload) := by
  intro par
  simp [encode, wireSize, frame_length]

theorem EncodedSize.rxOverlongFrame (cls id : Byte) (len : U16) : EncodedSize.Statement (.rxOverlongFrame cls id len) :=
  fun _ => rfl

end Sys2Proof.Laws
end

