-- ==== Sys2Proof/Laws/Step.lean ====
section
/-! SUPPORT. What one step can do: the fetch, and one inversion lemma for `exec` that names, for each kind of
instruction, the operation whose state it answers. -/

namespace Sys2Proof.Machine

variable {s t : State}

/-! ### The fetch -/

/-- A step from an empty inbox changes nothing. -/
theorem step_nil (h : s.inbox = []) : step s = .next s := by
  simp [step, State.fetch, h]

/-- A step from a delivered word runs the instruction it decodes to. -/
theorem step_cons {w : U16} {rest : List U16} (h : s.inbox = w :: rest) :
    step s = exec (decodeWord w) { s with inbox := rest } := by
  simp [step, State.fetch, h]

/-! ### Legality -/

theorem State.seqMayStart_eq (s : State) : s.seqMayStart = (s.mode == .idle || s.mode == .stopped) := by
  unfold State.seqMayStart
  cases s.mode <;> rfl

theorem State.streamMayStart_eq (s : State) : s.streamMayStart =
    ((s.mode == .idle || s.mode == .stopped) && (s.seq.state == .notRun || s.seq.state == .done)) := by
  unfold State.streamMayStart
  cases s.mode <;> cases s.seq.state <;> rfl

/-! ### The tick -/

/-- All that TICK can do. -/
theorem execTick_cases (h : execTick s = .next t) :
    ((s.mode = .idle ∨ s.mode = .stopped) ∧ t = s) ∨
    (s.mode = .startup ∧ s.seq.wait + 1 < s.par.ackTimeout ∧ t = { s with seq.wait := s.seq.wait + 1 }) ∨
    (s.mode = .startup ∧ s.par.ackTimeout ≤ s.seq.wait + 1 ∧
      t = State.stepFailed .ackTimeout { s with seq.wait := s.seq.wait + 1 }) ∨
    (s.mode = .stream ∧ s.stream.rxIdle + 1 < s.par.rxTimeout ∧
      t = { s with stream.rxIdle := s.stream.rxIdle + 1 }) ∨
    (s.mode = .stream ∧ s.par.rxTimeout ≤ s.stream.rxIdle + 1 ∧
      t = State.stopStream .transportTimeout { s with stream.rxIdle := s.stream.rxIdle + 1 }) := by
  unfold execTick at h
  split at h
  · cases h
    unfold State.seqTick
    by_cases hw : s.par.ackTimeout ≤ s.seq.wait + 1
    · exact .inr (.inr (.inl ⟨‹_›, hw, by simp only [if_pos hw]⟩))
    · exact .inr (.inl ⟨‹_›, BitVec.not_le.1 hw, by simp only [if_neg hw]⟩)
  · cases h
    unfold State.streamTick
    by_cases hw : s.par.rxTimeout ≤ s.stream.rxIdle + 1
    · exact .inr (.inr (.inr (.inr ⟨‹_›, hw, by simp only [if_pos hw]⟩)))
    · exact .inr (.inr (.inr (.inl ⟨‹_›, BitVec.not_le.1 hw, by simp only [if_neg hw]⟩)))
  · cases h; exact .inl ⟨.inl ‹_›, rfl⟩
  · cases h; exact .inl ⟨.inr ‹_›, rfl⟩

/-- All that CANCEL can do. -/
theorem execCancel_cases (h : execCancel s = .next t) :
    ((s.mode = .idle ∨ s.mode = .stopped) ∧ t = s) ∨
    (s.mode = .startup ∧ t = s.cancelSequence) ∨
    (s.mode = .stream ∧ t = s.stopStream .cancelled) := by
  unfold execCancel at h
  split at h <;> cases h <;> simp_all

/-! ### The transport -/

@[simp] theorem State.abortFrame_framer (s : State) : s.abortFrame.framer = s.framer := by
  unfold State.abortFrame; split <;> rfl
@[simp] theorem State.abortFrame_lastFrame (s : State) : s.abortFrame.lastFrame = s.lastFrame := by
  unfold State.abortFrame; split <;> rfl
@[simp] theorem State.abortFrame_lastMsg (s : State) : s.abortFrame.lastMsg = s.lastMsg := by
  unfold State.abortFrame; split <;> rfl
@[simp] theorem State.abortFrame_mode (s : State) : s.abortFrame.mode = s.mode := by
  unfold State.abortFrame; split <;> rfl
@[simp] theorem State.abortFrame_seq (s : State) : s.abortFrame.seq = s.seq := by
  unfold State.abortFrame; split <;> rfl
@[simp] theorem State.abortFrame_stream (s : State) : s.abortFrame.stream = s.stream := by
  unfold State.abortFrame; split <;> rfl
@[simp] theorem State.abortFrame_par (s : State) : s.abortFrame.par = s.par := by
  unfold State.abortFrame; split <;> rfl
@[simp] theorem State.abortFrame_draws (s : State) : s.abortFrame.draws = s.draws := by
  unfold State.abortFrame; split <;> rfl
@[simp] theorem State.abortFrame_inbox (s : State) : s.abortFrame.inbox = s.inbox := by
  unfold State.abortFrame; split <;> rfl
@[simp] theorem State.abortFrame_out (s : State) : s.abortFrame.out = s.out := by
  unfold State.abortFrame; split <;> rfl
@[simp] theorem State.abortFrame_cnt (s : State) : s.abortFrame.cnt =
    { s.cnt with abort := if s.framer.fs = .seeking then s.cnt.abort else s.cnt.abort + 1 } := by
  unfold State.abortFrame; split <;> rfl
@[simp] theorem State.abortFrame_errSticky (s : State) : s.abortFrame.errSticky =
    s.errSticky ||| (if s.framer.fs = .seeking then 0 else Cause.framingAbort.bit) := by
  unfold State.abortFrame; split <;> simp

@[simp] theorem State.transportFailed_framer (s : State) :
    s.transportFailed.framer = { s.framer with fs := .seeking, fIdx := 0, winValid := false } := by
  simp [State.transportFailed]
@[simp] theorem State.transportFailed_lastFrame (s : State) : s.transportFailed.lastFrame = s.lastFrame := by
  simp [State.transportFailed]
@[simp] theorem State.transportFailed_lastMsg (s : State) : s.transportFailed.lastMsg = s.lastMsg := by
  simp [State.transportFailed]
@[simp] theorem State.transportFailed_mode (s : State) : s.transportFailed.mode = s.mode := by
  simp [State.transportFailed]
@[simp] theorem State.transportFailed_seq (s : State) : s.transportFailed.seq = s.seq := by
  simp [State.transportFailed]
@[simp] theorem State.transportFailed_stream (s : State) : s.transportFailed.stream = s.stream := by
  simp [State.transportFailed]
@[simp] theorem State.transportFailed_par (s : State) : s.transportFailed.par = s.par := by
  simp [State.transportFailed]
@[simp] theorem State.transportFailed_draws (s : State) : s.transportFailed.draws = s.draws := by
  simp [State.transportFailed]
@[simp] theorem State.transportFailed_inbox (s : State) : s.transportFailed.inbox = s.inbox := by
  simp [State.transportFailed]
@[simp] theorem State.transportFailed_out (s : State) :
    s.transportFailed.out = s.out ++ [.error (.transportError s.framer.fs)] := by
  simp [State.transportFailed]
@[simp] theorem State.transportFailed_cnt (s : State) : s.transportFailed.cnt =
    { s.cnt with
      rxErr := s.cnt.rxErr + 1
      abort := if s.framer.fs = .seeking then s.cnt.abort else s.cnt.abort + 1 } := by
  simp [State.transportFailed]
@[simp] theorem State.transportFailed_errSticky (s : State) : s.transportFailed.errSticky =
    s.errSticky ||| (if s.framer.fs = .seeking then 0 else Cause.framingAbort.bit) |||
      Cause.transportError.bit := by
  simp [State.transportFailed]

/-- All that RX_ERROR can do. -/
theorem execRxError_cases (h : execRxError s = .next t) :
    (s.mode = .stream ∧ t = s.transportFailed.stopStream .transportError) ∨
    (s.mode ≠ .stream ∧ t = s.transportFailed) := by
  unfold execRxError at h
  split at h <;> cases h <;> simp_all

/-! ### A whole message -/

/-- What receiving a whole valid frame answers. -/
theorem State.receiveFrame_eq {c i : Byte} {p : List Byte}
    (h : p.length ≤ s.par.maxPayload) : s.receiveFrame c i p =
      .next ((s.noteByte.loadFrame c i p (rawFrame c i p).checksumA).acceptFrame (rawFrame c i p)
        (decodePayload s.par c i p)) := by
  unfold State.receiveFrame
  rw [if_pos h]

/-- A whole valid frame is received only when its payload fits the buffer. -/
theorem State.receiveFrame_cases {c i : Byte} {p : List Byte}
    (h : s.receiveFrame c i p = .next t) : p.length ≤ s.par.maxPayload ∧
      t = (s.noteByte.loadFrame c i p (rawFrame c i p).checksumA).acceptFrame (rawFrame c i p)
        (decodePayload s.par c i p) := by
  unfold State.receiveFrame at h
  split at h
  · cases h; exact ⟨‹_›, rfl⟩
  · cases h

/-- An inbound message that its row describes fits the buffer, decodes as its kind, and is received as a whole
frame. -/
theorem exec_inbound {i : Instr} {c id : Byte} {p : List Byte} {m : DecodedMessage}
    (h : inboundMessage s.par i = some (c, id, p, m)) (hw : i.wellFormed s.par = true) :
    p.length ≤ s.par.maxPayload ∧ decodePayload s.par c id p = m ∧ exec i s = s.receiveFrame c id p := by
  cases i <;> simp only [inboundMessage, Option.some.injEq, Prod.mk.injEq, reduceCtorEq] at h
  all_goals
    obtain ⟨rfl, rfl, rfl, rfl⟩ := h
    simp only [Instr.wellFormed, Bool.and_eq_true, Bool.not_eq_true', decide_eq_true_eq] at hw
    refine ⟨hw.2, ?_, rfl⟩
  case rxUnrecognized c id p =>
    unfold decodePayload
    unfold recognized minPayload at hw
    dsimp only
    repeat' split
    all_goals simp_all
  all_goals simp [decodePayload, hw.1]

/-! ### Every instruction -/

/-- All that an event word can do, by the instruction it decodes to. -/
theorem exec_word_cases {w : U16} (h : exec (decodeWord w) s = .next t) :
    (∃ b, decodeWord w = .rxByte b ∧ s.noteByte.framerByte b = .next t) ∨
    (∃ w', s.legal (decodeWord w) = false ∧ decodeWord w ≠ .reset ∧ t = s.refuse w') ∨
    (decodeWord w = .rxError ∧ execRxError s = .next t) ∨
    (decodeWord w = .tick ∧ execTick s = .next t) ∨
    (∃ p v, decodeWord w = .startSeq p v ∧ (s.mode = .idle ∨ s.mode = .stopped) ∧ t = s.startSequence p v) ∨
    (decodeWord w = .startStream ∧ (s.mode = .idle ∨ s.mode = .stopped) ∧
      (s.seq.state = .notRun ∨ s.seq.state = .done) ∧ t = s.startStream) ∨
    (decodeWord w = .cancel ∧ execCancel s = .next t) ∨
    (decodeWord w = .reset ∧ execReset s = .next t) := by
  have start : ∀ p v, execStartSeq p v s = .next t →
      ((s.mode = .idle ∨ s.mode = .stopped) ∧ t = s.startSequence p v) ∨
      ((s.mode == .idle || s.mode == .stopped) = false ∧ ∃ w', t = s.refuse w') := by
    intro p v h
    unfold execStartSeq at h
    rw [State.seqMayStart_eq] at h
    split at h <;> cases h
    · rename_i hl
      exact .inl ⟨by simpa using hl, rfl⟩
    · rename_i hl
      exact .inr ⟨by simpa using hl, _, rfl⟩
  have stream : execStartStream s = .next t →
      ((s.mode = .idle ∨ s.mode = .stopped) ∧ (s.seq.state = .notRun ∨ s.seq.state = .done) ∧ t = s.startStream) ∨
      (((s.mode == .idle || s.mode == .stopped) && (s.seq.state == .notRun || s.seq.state == .done)) = false ∧
        ∃ w', t = s.refuse w') := by
    intro h
    unfold execStartStream at h
    rw [State.streamMayStart_eq] at h
    split at h <;> cases h
    · rename_i hl
      simp only [Bool.and_eq_true, Bool.or_eq_true, beq_iff_eq] at hl
      exact .inl ⟨hl.1, hl.2, rfl⟩
    · rename_i hl
      exact .inr ⟨by simpa using hl, _, rfl⟩
  revert h
  unfold decodeWord
  dsimp only
  split <;> (try split) <;> intro h
  all_goals first
    | exact .inl ⟨_, rfl, h⟩
    | exact .inr (.inr (.inl ⟨rfl, h⟩))
    | exact .inr (.inr (.inr (.inl ⟨rfl, h⟩)))
    | exact .inr (.inr (.inr (.inr (.inr (.inr (.inl ⟨rfl, h⟩))))))
    | exact .inr (.inr (.inr (.inr (.inr (.inr (.inr ⟨rfl, h⟩))))))
    | (cases h; exact .inr (.inl ⟨_, rfl, by simp, rfl⟩))
    | (rcases start _ _ h with ⟨h1, h2⟩ | ⟨h1, w', h2⟩
       · exact .inr (.inr (.inr (.inr (.inl ⟨_, _, rfl, h1, h2⟩))))
       · exact .inr (.inl ⟨w', h1, by simp, h2⟩))
    | (rcases stream h with ⟨h1, h2, h3⟩ | ⟨h1, w', h2⟩
       · exact .inr (.inr (.inr (.inr (.inr (.inl ⟨rfl, h1, h2, h3⟩)))))
       · exact .inr (.inl ⟨w', h1, by simp, h2⟩))

/-- All that an instruction can do: what an event word can, or what a wire message can. -/
theorem exec_cases {i : Instr} (h : exec i s = .next t) :
    (∃ w, i = decodeWord w) ∨ (∃ c id p, i ≠ .reset ∧ s.receiveFrame c id p = .next t) ∨
    (∃ c id len, i = .rxOverlongFrame c id len ∧
      t = (s.noteByte.loadEnvelope c id (lowByte len)).lengthHigh (highByte len)) ∨
    (∃ c, i = Command.toInstr c ∧ t = s.transmit c) ∨
    (∃ w, i ≠ .reset ∧ t = s.refuse w) := by
  cases i
  case rxFixRecord p => exact .inr (.inl ⟨_, _, _, by simp, h⟩)
  case rxRateConfig p => exact .inr (.inl ⟨_, _, _, by simp, h⟩)
  case rxMsgEnableConfig p => exact .inr (.inl ⟨_, _, _, by simp, h⟩)
  case rxAck p => exact .inr (.inl ⟨_, _, _, by simp, h⟩)
  case rxNack p => exact .inr (.inl ⟨_, _, _, by simp, h⟩)
  case rxUnrecognized c i p => exact .inr (.inl ⟨_, _, _, by simp, h⟩)
  case rxOverlongFrame c i len => cases h; exact .inr (.inr (.inl ⟨_, _, _, rfl, rfl⟩))
  case txSetProtocolFilter => cases h; exact .inr (.inr (.inr (.inl ⟨.setProtocolFilter, rfl, rfl⟩)))
  case txSetRate4x2 => cases h; exact .inr (.inr (.inr (.inl ⟨.setRate4x2, rfl, rfl⟩)))
  case txSetRate2x1 => cases h; exact .inr (.inr (.inr (.inl ⟨.setRate2x1, rfl, rfl⟩)))
  case txEnableFixOutput => cases h; exact .inr (.inr (.inr (.inl ⟨.enableFixOutput, rfl, rfl⟩)))
  case txPollRate => cases h; exact .inr (.inr (.inr (.inl ⟨.pollRate, rfl, rfl⟩)))
  case txPollFixConfig => cases h; exact .inr (.inr (.inr (.inl ⟨.pollFixConfig, rfl, rfl⟩)))
  case rxByte b =>
    have : ∀ b : Byte, Instr.rxByte b = decodeWord (rxByteWord b) := by decide
    exact .inl ⟨_, this b⟩
  case rxError => exact .inl ⟨0x2000, by decide⟩
  case tick => exact .inl ⟨0x3000, by decide⟩
  case startSeq p v =>
    cases p <;> cases v
    · exact .inl ⟨0x4000, by decide⟩
    · exact .inl ⟨0x4002, by decide⟩
    · exact .inl ⟨0x4001, by decide⟩
    · exact .inl ⟨0x4003, by decide⟩
  case startStream => exact .inl ⟨0x5000, by decide⟩
  case cancel => exact .inl ⟨0x6000, by decide⟩
  case reset => exact .inl ⟨0x7000, by decide⟩
  all_goals
    cases h
    exact .inr (.inr (.inr (.inr ⟨_, by simp, rfl⟩)))

end Sys2Proof.Machine
end

