-- ==== Sys2Proof/Tests/Slice0.lean ====
section
/-! SUPPORT. The model's own tests: the checks of WellFormed, the decoding of every row, small vectors of
95_test_vectors.md (each named by its identifier there), the placing of an instruction, and for each statement with
hypotheses a state and operands that meet them. -/

namespace Sys2Proof.Tests

open Sys2Proof Sys2Proof.Machine

/-! ### States the tests use -/

/-- The parameters of 95_test_vectors.md with `P_ACK_TIMEOUT = 3` and `P_RX_TIMEOUT = 2`. -/
def par : Params where
  maxPayload := 256
  ackTimeout := 3
  rxTimeout := 2
  ifPort := 0
  prtPayload := Config.defaultPrtPayload

/-- S0 of 95_test_vectors.md, with the parameters above. -/
def s0 : State := { State.reset with par := par }

/-- `s0` in a mode. -/
def inMode (m : Mode) : State := { s0 with mode := m }

/-- A startup run that waits in a step. -/
def waiting (step : SeqStep) (retries : Nat) (wait : U32) : State :=
  { inMode .startup with
    seq := { s0.seq with state := .await, step := step, verify := true, retries := retries, wait := wait } }

/-- The framer in a state with an index and a length. -/
def inFrame (fs : FramerState) (idx len : U16) : State :=
  { s0 with framer := { s0.framer with fs := fs, fIdx := idx, fLen := len, winByte := 0xB5 } }

/-- `ACK(06,00)` of 95_test_vectors.md, received up to `checksumA`. -/
def ackArriving : State := s0.loadFrame 0x05 0x01 [0x06, 0x00] 0x0E

/-- The next state of a step, if it has one. -/
def nextOf (o : Host.Outcome State Fault Refusal) : Option State :=
  match o with
  | .next t => some t
  | .fault _ => none
  | .refused _ => none

/-- The state after one instruction; the state itself where it stops. -/
def after (i : Instr) (s : State) : State := (nextOf (exec i s)).getD s

/-- The instruction a result holds, if it holds one. -/
def okOf (r : Except Reject Instr) : Option Instr :=
  match r with
  | .ok i => some i
  | .error _ => none

/-- Why a result holds none. -/
def whyNot (r : Except Reject Instr) : Option Reject :=
  match r with
  | .ok _ => none
  | .error e => some e

/-! ### WellFormed: each check refuses an ill-formed term -/

theorem test_illFormed_rxByte_reserved : (Instr.illegalRxByte 0x0FF).wellFormed par = false := by decide
theorem test_illFormed_rxError_data : (Instr.illegalRxError 0).wellFormed par = false := by decide
theorem test_illFormed_tick_data : (Instr.illegalTick 0).wellFormed par = false := by decide
theorem test_illFormed_startSeq_reserved : (Instr.illegalStartSeq 0x003).wellFormed par = false := by decide
theorem test_illFormed_startStream_data : (Instr.illegalStartStream 0).wellFormed par = false := by decide
theorem test_illFormed_cancel_data : (Instr.illegalCancel 0).wellFormed par = false := by decide
theorem test_illFormed_reset_data : (Instr.illegalReset 0).wellFormed par = false := by decide
theorem test_illFormed_fixRecord_short : (Instr.rxFixRecord (List.replicate 91 0)).wellFormed par = false := by decide
theorem test_illFormed_fixRecord_long :
    (Instr.rxFixRecord (List.replicate 93 0)).wellFormed { par with maxPayload := 92 } = false := by decide
theorem test_illFormed_rateConfig_short : (Instr.rxRateConfig (List.replicate 5 0)).wellFormed par = false := by decide
theorem test_illFormed_rateConfig_long :
    (Instr.rxRateConfig (List.replicate 93 0)).wellFormed { par with maxPayload := 92 } = false := by decide
theorem test_illFormed_msgEnableConfig_short :
    (Instr.rxMsgEnableConfig (List.replicate 7 0)).wellFormed par = false := by decide
theorem test_illFormed_msgEnableConfig_long :
    (Instr.rxMsgEnableConfig (List.replicate 93 0)).wellFormed { par with maxPayload := 92 } = false := by decide
theorem test_illFormed_ack_short : (Instr.rxAck [0x06]).wellFormed par = false := by decide
theorem test_illFormed_ack_long :
    (Instr.rxAck (List.replicate 93 0)).wellFormed { par with maxPayload := 92 } = false := by decide
theorem test_illFormed_nack_short : (Instr.rxNack [0x06]).wellFormed par = false := by decide
theorem test_illFormed_nack_long :
    (Instr.rxNack (List.replicate 93 0)).wellFormed { par with maxPayload := 92 } = false := by decide
theorem test_illFormed_unrecognized_known : (Instr.rxUnrecognized 0x05 0x01 [0, 0]).wellFormed par = false := by decide
theorem test_illFormed_unrecognized_long :
    (Instr.rxUnrecognized 0x0A 0x04 (List.replicate 93 0)).wellFormed { par with maxPayload := 92 } = false := by decide
theorem test_illFormed_overlong_short : (Instr.rxOverlongFrame 0x01 0x07 256).wellFormed par = false := by decide

/-! ### Decoding: every row, from a word written out from its encoding (R91, R95, R96) -/

theorem test_decode_rxByte : decodeWord 0b0001000010110101 = .rxByte 0xB5 := by decide
theorem test_decode_rxError : decodeWord 0b0010000000000000 = .rxError := by decide
theorem test_decode_tick : decodeWord 0b0011000000000000 = .tick := by decide
theorem test_decode_startSeq_2x1 : decodeWord 0b0100000000000001 = .startSeq .r2x1 false := by decide
theorem test_decode_startSeq_verify : decodeWord 0b0100000000000010 = .startSeq .r4x2 true := by decide
theorem test_decode_startStream : decodeWord 0b0101000000000000 = .startStream := by decide
theorem test_decode_cancel : decodeWord 0b0110000000000000 = .cancel := by decide
theorem test_decode_reset : decodeWord 0b0111000000000000 = .reset := by decide
theorem test_decode_illegalOp0 : decodeWord 0b0000000000000001 = .illegalOp0 1 := by decide
theorem test_decode_illegalOpHigh_lowest : decodeWord 0b1000000000000000 = .illegalOpHigh 0 := by decide
theorem test_decode_illegalOpHigh_highest : decodeWord 0b1111111111111111 = .illegalOpHigh 0x7FFF := by decide
theorem test_decode_illegalRxByte : decodeWord 0b0001000100000000 = .illegalRxByte 0x100 := by decide
theorem test_decode_illegalRxError : decodeWord 0b0010000000000001 = .illegalRxError 1 := by decide
theorem test_decode_illegalTick : decodeWord 0b0011100000000000 = .illegalTick 0x800 := by decide
theorem test_decode_illegalStartSeq : decodeWord 0b0100000000000100 = .illegalStartSeq 4 := by decide
theorem test_decode_illegalStartStream : decodeWord 0b0101000000000001 = .illegalStartStream 1 := by decide
theorem test_decode_illegalCancel : decodeWord 0b0110000000000001 = .illegalCancel 1 := by decide
theorem test_decode_illegalReset : decodeWord 0b0111000000000001 = .illegalReset 1 := by decide

theorem test_decode_txSetProtocolFilter : okOf (decode par (.outbound
    [0xB5, 0x62, 0x06, 0x00, 0x14, 0x00, 0x00, 0x00, 0x00, 0x00, 0x84, 0x00, 0x00, 0x00, 0x00, 0x00, 0x00, 0x00,
     0x01, 0x00, 0x01, 0x00, 0x00, 0x00, 0x00, 0x00, 0xA0, 0x96])) = some .txSetProtocolFilter := by decide
theorem test_decode_txSetRate4x2 : okOf (decode par (.outbound
    [0xB5, 0x62, 0x06, 0x08, 0x06, 0x00, 0xFA, 0x00, 0x02, 0x00, 0x00, 0x00, 0x10, 0x98])) =
      some .txSetRate4x2 := by decide
theorem test_decode_txSetRate2x1 : okOf (decode par (.outbound
    [0xB5, 0x62, 0x06, 0x08, 0x06, 0x00, 0xF4, 0x01, 0x02, 0x00, 0x00, 0x00, 0x0B, 0x79])) =
      some .txSetRate2x1 := by decide
theorem test_decode_txEnableFixOutput : okOf (decode par (.outbound
    [0xB5, 0x62, 0x06, 0x01, 0x03, 0x00, 0x01, 0x07, 0x01, 0x13, 0x51])) = some .txEnableFixOutput := by decide
theorem test_decode_txPollRate : okOf (decode par (.outbound
    [0xB5, 0x62, 0x06, 0x08, 0x00, 0x00, 0x0E, 0x30])) = some .txPollRate := by decide
theorem test_decode_txPollFixConfig : okOf (decode par (.outbound
    [0xB5, 0x62, 0x06, 0x01, 0x02, 0x00, 0x01, 0x07, 0x11, 0x3A])) = some .txPollFixConfig := by decide
set_option maxRecDepth 4000 in
/-- `FIX0`. -/
theorem test_decode_rxFixRecord : okOf (decode par (.inbound
    ([0xB5, 0x62, 0x01, 0x07, 0x5C, 0x00] ++ List.replicate 92 0x00 ++ [0x64, 0xC1]))) =
      some (.rxFixRecord (List.replicate 92 0x00)) := by decide
/-- T-D6: seven payload bytes. -/
theorem test_decode_rxRateConfig : okOf (decode par (.inbound
    [0xB5, 0x62, 0x06, 0x08, 0x07, 0x00, 0xFA, 0x00, 0x02, 0x00, 0x00, 0x00, 0xAA, 0xBB, 0x5B])) =
      some (.rxRateConfig [0xFA, 0x00, 0x02, 0x00, 0x00, 0x00, 0xAA]) := by decide
/-- T-D7. -/
theorem test_decode_rxMsgEnableConfig : okOf (decode par (.inbound
    [0xB5, 0x62, 0x06, 0x01, 0x08, 0x00, 0x01, 0x07, 0x01, 0x00, 0x00, 0x00, 0x00, 0x00, 0x18, 0xE2])) =
      some (.rxMsgEnableConfig [0x01, 0x07, 0x01, 0x00, 0x00, 0x00, 0x00, 0x00]) := by decide
/-- T-D10: three payload bytes. -/
theorem test_decode_rxAck : okOf (decode par (.inbound
    [0xB5, 0x62, 0x05, 0x01, 0x03, 0x00, 0x06, 0x08, 0x00, 0x17, 0x5A])) =
      some (.rxAck [0x06, 0x08, 0x00]) := by decide
/-- T-D12. -/
theorem test_decode_rxNack : okOf (decode par (.inbound
    [0xB5, 0x62, 0x05, 0x00, 0x02, 0x00, 0x06, 0x08, 0x15, 0x3A])) = some (.rxNack [0x06, 0x08]) := by decide
/-- T-D11: a known pair with a short payload. -/
theorem test_decode_rxUnrecognized : okOf (decode par (.inbound
    [0xB5, 0x62, 0x05, 0x01, 0x01, 0x00, 0x06, 0x0D, 0x26])) = some (.rxUnrecognized 0x05 0x01 [0x06]) := by decide
/-- T-F3: length 257. -/
theorem test_decode_rxOverlongFrame : okOf (decode par (.inbound [0xB5, 0x62, 0x01, 0x07, 0x01, 0x01])) =
    some (.rxOverlongFrame 0x01 0x07 257) := by decide

/-- T-C10: the checksum does not validate. -/
theorem test_decode_rejects_badChecksum : whyNot (decode par (.inbound
    [0xB5, 0x62, 0x05, 0x01, 0x02, 0x00, 0x06, 0x00, 0x0E, 0x38])) = some .badChecksum := by decide
theorem test_decode_rejects_noSync : whyNot (decode par (.inbound
    [0x62, 0xB5, 0x05, 0x01, 0x02, 0x00, 0x06, 0x00, 0x0E, 0x37])) = some .noSync := by decide
theorem test_decode_rejects_truncated : whyNot (decode par (.inbound
    [0xB5, 0x62, 0x05, 0x01, 0x02, 0x00, 0x06, 0x00, 0x0E])) = some .truncated := by decide
theorem test_decode_rejects_notACommand : whyNot (decode par (.outbound
    [0xB5, 0x62, 0x06, 0x08, 0x00, 0x00, 0x0E, 0x31])) = some .notACommand := by decide
theorem test_decode_rejects_trailingBytes : whyNot (decode par (.inbound
    [0xB5, 0x62, 0x05, 0x01, 0x02, 0x00, 0x06, 0x00, 0x0E, 0x37, 0x00])) = some .trailingBytes := by decide

/-! ### The opcode table's numbering, and placing an instruction -/

theorem test_table_startSeq : decodeTableWord 16 0x4003 = some (.startSeq .r2x1 true) := by decide
/-- `CMD_POLL_RATE`, first byte lowest. -/
theorem test_table_txPollRate : decodeTableWord 64 0x300E0000080662B5 = some .txPollRate := by decide
/-- `ACK(06,00)`, first byte lowest. -/
theorem test_table_rxAck : decodeTableWord 80 0x370E00060002010562B5 = some (.rxAck [0x06, 0x00]) := by decide
theorem test_place_event :
    (nextOf (step (s0.withFetchWord 16 0x4000))).map (·.mode) = some .startup := by decide
theorem test_place_ack :
    (nextOf (step (s0.withFetchWord 80 0x370E00060002010562B5))).map (·.lastMsg) =
      some (some (.ack { echoedClass := 0x06, echoedId := 0x00 })) := by decide
theorem test_place_txPollRate :
    (nextOf (step (s0.withFetchWord 64 0x300E0000080662B5))).map (·.out.getLast?) =
      some (some (.txFrame [0xB5, 0x62, 0x06, 0x08, 0x00, 0x00, 0x0E, 0x30])) := by decide

/-! ### The checksum and the fields (95_test_vectors.md 2.1, 2.4) -/

/-- W1. -/
theorem test_W1 : compute [0x06, 0x08, 0x06, 0x00, 0xFA, 0x00, 0x02, 0x00, 0x00, 0x00] = (0x10, 0x98) := by decide
/-- T-C3. -/
theorem test_TC3 : compute [0xFF, 0xFF] = (0xFE, 0xFD) := by decide
/-- The spot checks of T-D1: `lat`, `nano` and `magDec`. -/
theorem test_TD1_signed : s32 [0x18, 0x64, 0xB2, 0x1E] 0 = 515007512 ∧ s32 [0x2E, 0xFB, 0xFF, 0xFF] 0 = -1234 ∧
    s16 [0x6A, 0xFF] 0 = -150 := by decide
/-- T-D8, with `P_IF_PORT` 0 and 1. -/
theorem test_TD8 : (decodeMsg par [0x01, 0x07, 0x00, 0x01, 0x00, 0x00, 0x00, 0x00]).enabled = false ∧
    (decodeMsg { par with ifPort := 1 } [0x01, 0x07, 0x00, 0x01, 0x00, 0x00, 0x00, 0x00]).enabled = true := by decide

/-! ### One step of each instruction -/

/-- T-F1, last byte. -/
theorem test_rxByte_handsOff : (after (.rxByte 0x37) ackArriving).out =
    [.frameOk (rawFrame 0x05 0x01 [0x06, 0x00]), .msg (.ack { echoedClass := 0x06, echoedId := 0x00 })] := by decide
/-- T-C10, last byte. -/
theorem test_rxByte_checksumError : (after (.rxByte 0x38) ackArriving).out =
    [.error (.checksum (0x0E, 0x38) (0x0E, 0x37))] ∧
    (after (.rxByte 0x38) ackArriving).errSticky = 0x0008 := by decide
/-- T-F9. -/
theorem test_rxError_aborts : (after .rxError (inFrame .envelope 1 0)).errSticky = 0x0084 ∧
    (after .rxError (inFrame .envelope 1 0)).cnt.abort = 1 := by decide
/-- T-F12. -/
theorem test_rxError_seeking : (after .rxError s0).out = [.error (.transportError .seeking)] ∧
    (after .rxError s0).errSticky = 0x0080 := by decide
theorem test_tick_times_out_in_startup :
    (after .tick (waiting .setRate 0 2)).seq.retries = 1 ∧
    (after .tick (waiting .setRate 0 2)).errSticky = 0x0010 := by decide
theorem test_tick_times_out_in_stream :
    (after .tick { inMode .stream with stream.rxIdle := 1 }).mode = .stopped ∧
    (after .tick { inMode .stream with stream.rxIdle := 1 }).out = [.streamStopped .transportTimeout] := by decide
theorem test_startSeq_sends : (after (.startSeq .r2x1 true) s0).out.length = 1 ∧
    (after (.startSeq .r2x1 true) s0).seq.preset = .r2x1 := by decide
theorem test_startSeq_refused : (after (.startSeq .r2x1 true) (inMode .stream)).out =
    [.error (.illegalEvent 0x4003)] := by decide
theorem test_startStream_starts : (after .startStream s0).mode = .stream := by decide
theorem test_startStream_refused_after_failure :
    (after .startStream { s0 with seq.state := .failed }).out = [.error (.illegalEvent 0x5000)] := by decide
theorem test_cancel_startup : (after .cancel (waiting .setRate 0 0)).seq.state = .cancelled ∧
    (after .cancel (waiting .setRate 0 0)).errSticky = 0x0400 := by decide
theorem test_cancel_stream : (after .cancel (inMode .stream)).stream.stopReason = some .cancelled := by decide
theorem test_reset_clears : (after .reset { s0 with errSticky := 0xFFFF, cnt.rxErr := 7 }).errSticky = 0x0000 ∧
    (after .reset { s0 with errSticky := 0xFFFF, cnt.rxErr := 7 }).cnt.rxErr = 0 := by decide
theorem test_illegalOp0_refused : (after (.illegalOp0 0xABC) s0).out = [.error (.illegalEvent 0x0ABC)] := by decide
theorem test_illegalOpHigh_refused : (after (.illegalOpHigh 0x7FFF) s0).out =
    [.error (.illegalEvent 0xFFFF)] := by decide
theorem test_illegalRxByte_refused : (after (.illegalRxByte 0x1B5) s0).cnt.illegal = 1 ∧
    (after (.illegalRxByte 0x1B5) s0).framer = s0.framer := by decide
theorem test_illegalRxError_refused : (after (.illegalRxError 1) s0).errSticky = 0x0200 := by decide
theorem test_illegalTick_refused : (after (.illegalTick 1) (waiting .setRate 0 2)).seq.wait = 2 := by decide
theorem test_illegalStartSeq_refused : (after (.illegalStartSeq 4) s0).mode = .idle := by decide
theorem test_illegalStartStream_refused : (after (.illegalStartStream 1) s0).mode = .idle := by decide
theorem test_illegalCancel_refused : (after (.illegalCancel 1) (inMode .stream)).mode = .stream := by decide
theorem test_illegalReset_refused : (after (.illegalReset 1) s0).out = [.error (.illegalEvent 0x7001)] := by decide
theorem test_txSetProtocolFilter_sends : (after .txSetProtocolFilter s0).out =
    [.txFrame [0xB5, 0x62, 0x06, 0x00, 0x14, 0x00, 0x00, 0x00, 0x00, 0x00, 0x84, 0x00, 0x00, 0x00, 0x00, 0x00, 0x00,
      0x00, 0x01, 0x00, 0x01, 0x00, 0x00, 0x00, 0x00, 0x00, 0xA0, 0x96]] := by decide
theorem test_txSetRate4x2_sends : (after .txSetRate4x2 s0).out =
    [.txFrame [0xB5, 0x62, 0x06, 0x08, 0x06, 0x00, 0xFA, 0x00, 0x02, 0x00, 0x00, 0x00, 0x10, 0x98]] := by decide
theorem test_txSetRate2x1_sends : (after .txSetRate2x1 s0).out =
    [.txFrame [0xB5, 0x62, 0x06, 0x08, 0x06, 0x00, 0xF4, 0x01, 0x02, 0x00, 0x00, 0x00, 0x0B, 0x79]] := by decide
theorem test_txEnableFixOutput_sends : (after .txEnableFixOutput s0).out =
    [.txFrame [0xB5, 0x62, 0x06, 0x01, 0x03, 0x00, 0x01, 0x07, 0x01, 0x13, 0x51]] := by decide
theorem test_txPollRate_clears_readback : (after .txPollRate
    { s0 with seq.rbRate := some { measRate := 1, navRate := 2, timeRef := 3 }, seq.wait := 2 }).seq = s0.seq := by decide
theorem test_txPollFixConfig_restarts_wait : (after .txPollFixConfig (waiting .setRate 0 2)).seq.wait = 0 := by decide
/-- T-D2: every field 0, published in STREAM. -/
theorem test_rxFixRecord_publishes :
    ((after (.rxFixRecord (List.replicate 92 0x00)) (inMode .stream)).stream.fixOut.map (·.lat)) = some 0 ∧
    (after (.rxFixRecord (List.replicate 92 0x00)) (inMode .stream)).stream.fixSeq = 1 := by decide
/-- The example of 45_stream.md R257: a payload of 91 bytes is Unrecognized, and nothing is published. -/
theorem test_rxFixRecord_short_payload :
    (after (.rxFixRecord (List.replicate 91 0x00)) (inMode .stream)).lastMsg = some (.unrecognized 0x01 0x07) ∧
    (after (.rxFixRecord (List.replicate 91 0x00)) (inMode .stream)).stream.fixSeq = 0 := by decide
/-- T-D5. -/
theorem test_rxRateConfig_captured :
    (after (.rxRateConfig [0xE8, 0x03, 0x01, 0x00, 0x01, 0x00]) (waiting .pollRate 0 0)).seq.rbRate =
      some { measRate := 1000, navRate := 1, timeRef := 1 } := by decide
/-- T-D9: another target is not the read-back of POLL_FIX_CONFIG (R216). -/
theorem test_rxMsgEnableConfig_other_target :
    (after (.rxMsgEnableConfig [0x01, 0x03, 0x01, 0x00, 0x00, 0x00, 0x00, 0x00]) (waiting .pollFixConfig 0 0)).seq =
      (waiting .pollFixConfig 0 0).seq := by decide
theorem test_rxAck_advances : (after (.rxAck [0x06, 0x00]) (waiting .setProtocolFilter 1 2)).seq.step = .setRate ∧
    (after (.rxAck [0x06, 0x00]) (waiting .setProtocolFilter 1 2)).seq.retries = 0 := by decide
theorem test_rxAck_other_key : (after (.rxAck [0x06, 0x08]) (waiting .setProtocolFilter 0 0)).seq =
    (waiting .setProtocolFilter 0 0).seq := by decide
/-- W6: the second Nack. -/
theorem test_rxNack_fails : (after (.rxNack [0x06, 0x00]) (waiting .setProtocolFilter 1 0)).seq.failStep =
    some .setProtocolFilter ∧ (after (.rxNack [0x06, 0x00]) (waiting .setProtocolFilter 1 0)).mode = .idle := by decide
/-- T-F5. -/
theorem test_rxUnrecognized_counts : (after (.rxUnrecognized 0x01 0x35 []) s0).cnt.unrec = 1 ∧
    (after (.rxUnrecognized 0x01 0x35 []) s0).cnt.framesOk = 1 := by decide
/-- T-F4. -/
theorem test_rxOverlongFrame_counts : (after (.rxOverlongFrame 0x01 0x07 0xFFFF) s0).cnt.lenErr = 1 ∧
    (after (.rxOverlongFrame 0x01 0x07 0xFFFF) s0).errSticky = 0x0002 := by decide

/-! ### States and operands that meet the hypotheses of the statements

Each theorem below gives, for one statement of Obligations.lean (its name follows `test_witness_`), values that meet
its hypotheses together; a statement with several clauses has one for each, at the ends of the clause's range. -/

/-- A state with the framer of reset and no frame recorded has the invariant when its own registers do. -/
theorem inv_of {s : State} (hp : s.par = par) (hf : s.framer = .reset) (hl : s.lastFrame = none)
    (hm : s.lastMsg = none) (hq : s.SequencerInv) (ht : s.StreamInv) (he : s.errSticky &&& 0xF801 = 0) : s.Inv where
  par := by rw [hp]; decide
  framer := by
    constructor <;> rw [hf] <;> first | exact List.Pairwise.nil | simp [Framer.reset]
  checksum := by
    constructor
    · rw [hf]; simp [Framer.reset]
    · rw [hf]; simp [Framer.reset]
    · unfold State.payloadArrived; rw [hf]; simp [Framer.reset]
  sequencer := hq
  stream := ht
  record := ⟨by rw [hl, hm]; rfl, by rw [hl]; intro f h; cases h⟩
  sticky := he

theorem inv_s0 : s0.Inv :=
  inv_of rfl rfl rfl rfl (by constructor <;> decide) (by constructor <;> decide) (by decide)

theorem inv_stream : (inMode .stream).Inv :=
  inv_of rfl rfl rfl rfl (by constructor <;> decide) (by constructor <;> decide) (by decide)

theorem inv_waiting : (waiting .setRate 1 2).Inv :=
  inv_of rfl rfl rfl rfl (by constructor <;> decide) (by constructor <;> decide) (by decide)

/-- `ackArriving` with another byte behind the frame's payload. -/
def ackArrivingToo : State := { ackArriving with framer.fPay := ackArriving.framer.fPay.write 2 0xFF }

theorem framerInv_ackArriving : ackArriving.FramerInv ∧ ackArriving.ChecksumInv :=
  ⟨by constructor <;> decide, by constructor <;> decide⟩

theorem inv_ackArriving : ackArriving.Inv where
  par := by decide
  framer := framerInv_ackArriving.1
  checksum := framerInv_ackArriving.2
  sequencer := by constructor <;> decide
  stream := by constructor <;> decide
  record := ⟨rfl, by intro f h; cases h⟩
  sticky := by decide

theorem inv_ackArrivingToo : ackArrivingToo.Inv where
  par := by decide
  framer := by constructor <;> decide
  checksum := by constructor <;> decide
  sequencer := by constructor <;> decide
  stream := by constructor <;> decide
  record := ⟨rfl, by intro f h; cases h⟩
  sticky := by decide

theorem test_witness_StepRunsDecodedWord_fetch :
    ({ s0 with inbox := [0x3000, 0x7000] } : State).inbox = 0x3000 :: [0x7000] := by decide
theorem test_witness_StepRunsDecodedWord_wait : s0.inbox = [] := by decide
theorem test_witness_RunTakesWordsInOrder :
    ({ s0 with inbox := [0x4000, 0x3000, 0x6000] } : State).inbox = [0x4000, 0x3000] ++ [0x6000] := by decide
theorem test_witness_DecodeEncodeRoundTrip_event :
    par.wf = true ∧ (Instr.illegalRxByte 0x100).wellFormed par = true ∧
    (Instr.illegalStartSeq 0x004).wellFormed par = true ∧ (Instr.illegalTick 0x001).wellFormed par = true := by decide
theorem test_witness_DecodeEncodeRoundTrip_shortest :
    par.wf = true ∧ (Instr.rxFixRecord (List.replicate 92 0)).wellFormed par = true ∧
    (Instr.rxRateConfig (List.replicate 6 0)).wellFormed par = true ∧
    (Instr.rxMsgEnableConfig (List.replicate 8 0)).wellFormed par = true ∧
    (Instr.rxAck (List.replicate 2 0)).wellFormed par = true ∧
    (Instr.rxNack (List.replicate 2 0)).wellFormed par = true ∧
    (Instr.rxUnrecognized 0x05 0x01 [0]).wellFormed par = true ∧
    (Instr.rxOverlongFrame 0x05 0x01 257).wellFormed par = true := by decide
theorem test_witness_DecodeEncodeRoundTrip_longest :
    ({ par with maxPayload := 92 } : Params).wf = true ∧
    (Instr.rxFixRecord (List.replicate 92 0)).wellFormed { par with maxPayload := 92 } = true ∧
    (Instr.rxUnrecognized 0x0A 0x04 (List.replicate 92 0)).wellFormed { par with maxPayload := 92 } = true := by decide
theorem test_witness_RefusedWords_refused :
    wordRefused 0x0000 ∧ wordRefused 0x8000 ∧ wordRefused 0x1100 ∧ wordRefused 0x4004 ∧ wordRefused 0x7001 :=
  ⟨by decide, by decide, by decide, by decide, by decide⟩
theorem test_witness_RefusedWords_legal :
    ¬ wordRefused 0x10FF ∧ ¬ wordRefused 0x4003 ∧ ¬ wordRefused 0x7000 ∧ s0.mode = .idle ∧
    s0.seq.state = .notRun := by decide
theorem test_witness_LegalityTable_refused :
    (inMode .stream).legal (decodeWord 0x4000) = false ∧
    ({ s0 with seq.state := .failed } : State).legal (decodeWord 0x5000) = false := by decide
theorem test_witness_LegalityTable_legal :
    s0.legal (decodeWord 0x4000) = true ∧ (0x4000 : U16) ≠ resetWord ∧ ∃ t, exec (decodeWord 0x4000) s0 = .next t :=
  ⟨by decide, by decide, _, rfl⟩
theorem test_witness_LegalityTable_noEffect :
    (s0.mode = .idle ∨ s0.mode = .stopped) ∧
    ((inMode .stopped).mode = .idle ∨ (inMode .stopped).mode = .stopped) := by decide
theorem test_witness_FrameLayout_shortest : ([] : List Byte).length ≤ 65535 := by decide
theorem test_witness_FrameLayout_longest : (List.replicate 65535 (0 : Byte)).length ≤ 65535 := by
  rw [List.length_replicate]
theorem test_witness_ChecksumBlindSpot_unseen :
    ([1, 2, 3] : List Byte).length = ([128, 0, 128] : List Byte).length ∧
    byteSum [128, 0, 128] % 256 = 0 ∧ weightedSum [128, 0, 128] % 256 = 0 := by decide
theorem test_witness_ChecksumBlindSpot_seen :
    ([1, 2] : List Byte).length = ([255, 1] : List Byte).length ∧
    byteSum [255, 1] % 256 = 0 ∧ weightedSum [255, 1] % 256 ≠ 0 := by decide
theorem test_witness_CommandFrames : par.prtPayload = Config.defaultPrtPayload := by decide
theorem test_witness_SeekByte_sync :
    ({ s0 with framer.winValid := true, framer.winByte := 0xB5 } : State).framer.fs = .seeking := by decide
theorem test_witness_SeekByte_noise : s0.framer.fs = .seeking := by decide
theorem test_witness_EnvelopeByte_class :
    (inFrame .envelope 0 0).framer.fs = .envelope ∧ (inFrame .envelope 0 0).framer.fIdx = 0 := by decide
theorem test_witness_EnvelopeByte_id :
    (inFrame .envelope 1 0).framer.fs = .envelope ∧ (inFrame .envelope 1 0).framer.fIdx = 1 := by decide
theorem test_witness_EnvelopeByte_lengthLow :
    (inFrame .envelope 2 0).framer.fs = .envelope ∧ (inFrame .envelope 2 0).framer.fIdx = 2 := by decide
theorem test_witness_LengthHighByte_over :
    (inFrame .envelope 3 1).framer.fs = .envelope ∧ (inFrame .envelope 3 1).framer.fIdx = 3 ∧
    (inFrame .envelope 3 1).par.maxPayload <
      ((inFrame .envelope 3 1).framer.fLen ||| ((0x01 : Byte).zeroExtend 16 <<< 8)).toNat := by decide
theorem test_witness_LengthHighByte_zero :
    (inFrame .envelope 3 0).framer.fs = .envelope ∧ (inFrame .envelope 3 0).framer.fIdx = 3 ∧
    ((inFrame .envelope 3 0).framer.fLen ||| ((0x00 : Byte).zeroExtend 16 <<< 8)).toNat ≤ 256 ∧
    ((inFrame .envelope 3 0).framer.fLen ||| ((0x00 : Byte).zeroExtend 16 <<< 8)) = 0 := by decide
theorem test_witness_LengthHighByte_largest :
    (inFrame .envelope 3 0).framer.fs = .envelope ∧ (inFrame .envelope 3 0).framer.fIdx = 3 ∧
    ((inFrame .envelope 3 0).framer.fLen ||| ((0x01 : Byte).zeroExtend 16 <<< 8)).toNat =
      (inFrame .envelope 3 0).par.maxPayload ∧
    ((inFrame .envelope 3 0).framer.fLen ||| ((0x01 : Byte).zeroExtend 16 <<< 8)) ≠ 0 := by decide
theorem test_witness_PayloadByte_last :
    (inFrame .payload 255 256).framer.fs = .payload ∧
    (inFrame .payload 255 256).framer.fIdx < (inFrame .payload 255 256).framer.fLen ∧
    (inFrame .payload 255 256).framer.fLen.toNat ≤ (inFrame .payload 255 256).par.maxPayload := by decide
theorem test_witness_PayloadByte_first :
    (inFrame .payload 0 2).framer.fs = .payload ∧
    (inFrame .payload 0 2).framer.fIdx < (inFrame .payload 0 2).framer.fLen ∧
    (inFrame .payload 0 2).framer.fLen.toNat ≤ (inFrame .payload 0 2).par.maxPayload := by decide
theorem test_witness_ChecksumBytes_first :
    (inFrame .checksum 0 0).framer.fs = .checksum ∧ (inFrame .checksum 0 0).framer.fIdx = 0 := by decide
theorem test_witness_ChecksumBytes_second :
    ackArriving.framer.fs = .checksum ∧ ackArriving.framer.fIdx = 1 ∧
    ackArriving.framer.fLen.toNat ≤ ackArriving.par.maxPayload ∧
    ¬ (ackArriving.framer.fCka = ackArriving.framer.runA ∧ (0x38 : Byte) = ackArriving.framer.runB) := by decide
theorem test_witness_LastByteHandsOffMessage :
    ackArriving.FramerInv ∧ ackArriving.ChecksumInv ∧ ackArriving.framer.fs = .checksum ∧
    ackArriving.framer.fIdx = 1 ∧ ackArriving.framer.fCka = ackArriving.framer.runA :=
  ⟨framerInv_ackArriving.1, framerInv_ackArriving.2, by decide, by decide, by decide⟩
theorem test_witness_WholeFrameIsMessage_shortest :
    s0.par.wf = true ∧ s0.framer.fs = .seeking ∧ ([] : List Byte).length ≤ s0.par.maxPayload := by decide
theorem test_witness_WholeFrameIsMessage_longest :
    s0.par.wf = true ∧ s0.framer.fs = .seeking ∧ (List.replicate 256 (0 : Byte)).length ≤ s0.par.maxPayload :=
  ⟨by decide, by decide, by rw [List.length_replicate]; decide⟩
theorem test_witness_OverlongEnvelopeIsDropped :
    s0.framer.fs = .seeking ∧ s0.par.maxPayload < (257 : U16).toNat := by decide
theorem test_witness_Resynchronization :
    s0.par.wf = true ∧ s0.framer.fs = .seeking ∧ s0.framer.winValid = false ∧
    ([0x06, 0x00] : List Byte).length ≤ s0.par.maxPayload ∧
    noSyncPair ([0x00, 0xFF, 0xB5, 0x00, 0x62, 0x13, 0xB5] ++ [0xB5]) = true := by decide
theorem test_witness_CorruptionRecovery :
    s0.par.wf = true ∧ s0.framer.fs = .seeking ∧ ([0x06, 0x00] : List Byte).length ≤ s0.par.maxPayload ∧
    compute (frameBody 0x05 0x01 (payloadLength [0x06, 0x00]) [0x06, 0x00]) ≠ (0xF1, 0xC8) := by decide
theorem test_witness_NoiseCanHideFrame : s0.par.wf = true ∧ s0.framer.fs = .seeking := by decide
theorem test_witness_ReservedBytesNotRead_fix :
    minPayload 0x01 0x07 = some 92 ∧ 92 ≤ (List.replicate 92 (0 : Byte)).length ∧
    92 ≤ (List.replicate 79 (0 : Byte) ++ [1, 2, 3, 4, 5] ++ List.replicate 9 0).length ∧
    (∀ k < 92, ¬ ((0x01 : Byte) = 0x01 ∧ 79 ≤ k ∧ k ≤ 83) → (List.replicate 92 (0 : Byte))[k]? =
      (List.replicate 79 (0 : Byte) ++ [1, 2, 3, 4, 5] ++ List.replicate 9 0)[k]?) := by decide
theorem test_witness_ReservedBytesNotRead_rate :
    minPayload 0x06 0x08 = some 6 ∧ 6 ≤ ([1, 2, 3, 4, 5, 6] : List Byte).length ∧
    6 ≤ ([1, 2, 3, 4, 5, 6, 7] : List Byte).length ∧
    (∀ k < 6, ¬ ((0x06 : Byte) = 0x01 ∧ 79 ≤ k ∧ k ≤ 83) →
      ([1, 2, 3, 4, 5, 6] : List Byte)[k]? = ([1, 2, 3, 4, 5, 6, 7] : List Byte)[k]?) := by decide
theorem test_witness_FieldAssembly : 3 + 1 ≤ ([1, 2, 3, 4] : List Byte).length ∧
    2 + 2 ≤ ([1, 2, 3, 4] : List Byte).length ∧ 0 + 4 ≤ ([1, 2, 3, 4] : List Byte).length := by decide
theorem test_witness_FixRecordLayout :
    ({ decodeFix (List.replicate 92 0) with
        nano := -2147483648, lat := 2147483647, magDec := -32768 } : FixRecord).inRange := by decide
theorem test_witness_HandOffOutsideRuns_records :
    inboundMessage par (.rxFixRecord (List.replicate 92 0)) =
      some (0x01, 0x07, List.replicate 92 0, .fixRecord (decodeFix (List.replicate 92 0))) ∧
    inboundMessage par (.rxRateConfig [1, 2, 3, 4, 5, 6]) =
      some (0x06, 0x08, [1, 2, 3, 4, 5, 6], .rateConfig (decodeRate [1, 2, 3, 4, 5, 6])) ∧
    (Instr.rxFixRecord (List.replicate 92 0)).wellFormed s0.par = true ∧
    (Instr.rxRateConfig [1, 2, 3, 4, 5, 6]).wellFormed s0.par = true ∧ (s0.mode = .idle ∨ s0.mode = .stopped) :=
  ⟨rfl, rfl, by decide, by decide, by decide⟩
theorem test_witness_HandOffOutsideRuns_others :
    inboundMessage par (.rxMsgEnableConfig [1, 7, 1, 0, 0, 0, 0, 0]) =
      some (0x06, 0x01, [1, 7, 1, 0, 0, 0, 0, 0], .msgEnableConfig (decodeMsg par [1, 7, 1, 0, 0, 0, 0, 0])) ∧
    inboundMessage par (.rxAck [6, 0]) = some (0x05, 0x01, [6, 0], .ack (decodeEcho [6, 0])) ∧
    inboundMessage par (.rxNack [6, 0]) = some (0x05, 0x00, [6, 0], .nack (decodeEcho [6, 0])) ∧
    inboundMessage par (.rxUnrecognized 1 0x35 []) = some (1, 0x35, [], .unrecognized 1 0x35) ∧
    (Instr.rxMsgEnableConfig [1, 7, 1, 0, 0, 0, 0, 0]).wellFormed (inMode .stopped).par = true ∧
    (Instr.rxAck [6, 0]).wellFormed (inMode .stopped).par = true ∧
    (Instr.rxNack [6, 0]).wellFormed (inMode .stopped).par = true ∧
    (Instr.rxUnrecognized 1 0x35 []).wellFormed (inMode .stopped).par = true ∧
    ((inMode .stopped).mode = .idle ∨ (inMode .stopped).mode = .stopped) :=
  ⟨rfl, rfl, rfl, rfl, by decide, by decide, by decide, by decide, by decide⟩
theorem test_witness_StreamPublishes :
    92 ≤ (List.replicate 92 (0 : Byte)).length ∧
    (List.replicate 92 (0 : Byte)).length ≤ (inMode .stream).par.maxPayload ∧ (inMode .stream).mode = .stream := by
  decide
theorem test_witness_StreamIgnoresOthers :
    inboundMessage par (.rxAck [6, 0]) = some (0x05, 0x01, [6, 0], .ack (decodeEcho [6, 0])) ∧
    (Instr.rxAck [6, 0]).wellFormed (inMode .stream).par = true ∧ (inMode .stream).mode = .stream ∧
    ∀ r, DecodedMessage.ack (decodeEcho [6, 0]) ≠ .fixRecord r :=
  ⟨rfl, by decide, by decide, fun _ h => nomatch h⟩
theorem test_witness_AckOfCommandStep_filter :
    (waiting .setProtocolFilter 0 0).mode = .startup ∧ (waiting .setProtocolFilter 0 0).seq.step ≠ .pollRate ∧
    (waiting .setProtocolFilter 0 0).seq.step ≠ .pollFixConfig ∧
    ([] : List Byte).length + 2 ≤ (waiting .setProtocolFilter 0 0).par.maxPayload ∧
    (waiting .setProtocolFilter 0 0).seq.step = .setProtocolFilter := by decide
theorem test_witness_AckOfCommandStep_rate :
    (waiting .setRate 1 2).mode = .startup ∧ (waiting .setRate 1 2).seq.step = .setRate ∧
    ([0] : List Byte).length + 2 ≤ (waiting .setRate 1 2).par.maxPayload := by decide
theorem test_witness_AckOfCommandStep_verify :
    (waiting .enableFixOutput 0 0).mode = .startup ∧ (waiting .enableFixOutput 0 0).seq.step = .enableFixOutput ∧
    (waiting .enableFixOutput 0 0).seq.verify = true := by decide
theorem test_witness_AckOfCommandStep_noVerify :
    ({ waiting .enableFixOutput 0 0 with seq.verify := false } : State).mode = .startup ∧
    ({ waiting .enableFixOutput 0 0 with seq.verify := false } : State).seq.step = .enableFixOutput ∧
    ({ waiting .enableFixOutput 0 0 with seq.verify := false } : State).seq.verify = false := by decide
theorem test_witness_AckOfPollRate :
    (waiting .pollRate 0 0).mode = .startup ∧ (waiting .pollRate 0 0).seq.step = .pollRate ∧
    ([] : List Byte).length + 2 ≤ (waiting .pollRate 0 0).par.maxPayload := by decide
theorem test_witness_AckOfPollFixConfig :
    (waiting .pollFixConfig 0 0).mode = .startup ∧ (waiting .pollFixConfig 0 0).seq.step = .pollFixConfig ∧
    ([] : List Byte).length + 2 ≤ (waiting .pollFixConfig 0 0).par.maxPayload := by decide
theorem test_witness_NackRetriesThenFails_retry :
    (waiting .setRate 0 0).mode = .startup ∧ (waiting .setRate 0 0).seq.retries = 0 ∧
    ([] : List Byte).length + 2 ≤ (waiting .setRate 0 0).par.maxPayload := by decide
theorem test_witness_NackRetriesThenFails_fail :
    (waiting .setRate 1 0).mode = .startup ∧ (waiting .setRate 1 0).seq.retries ≠ 0 ∧
    ([] : List Byte).length + 2 ≤ (waiting .setRate 1 0).par.maxPayload := by decide
theorem test_witness_ReadBackCaptured_rate :
    (waiting .pollRate 0 0).mode = .startup ∧ (waiting .pollRate 0 0).seq.step = .pollRate ∧
    6 ≤ ([0xFA, 0, 2, 0, 0, 0] : List Byte).length ∧
    ([0xFA, 0, 2, 0, 0, 0] : List Byte).length ≤ (waiting .pollRate 0 0).par.maxPayload := by decide
theorem test_witness_ReadBackCaptured_msg :
    (waiting .pollFixConfig 0 0).mode = .startup ∧ (waiting .pollFixConfig 0 0).seq.step = .pollFixConfig ∧
    8 ≤ ([1, 7, 1, 0, 0, 0, 0, 0] : List Byte).length ∧
    ([1, 7, 1, 0, 0, 0, 0, 0] : List Byte).length ≤ (waiting .pollFixConfig 0 0).par.maxPayload ∧
    (decodeMsg (waiting .pollFixConfig 0 0).par [1, 7, 1, 0, 0, 0, 0, 0]).msgClass = 0x01 ∧
    (decodeMsg (waiting .pollFixConfig 0 0).par [1, 7, 1, 0, 0, 0, 0, 0]).msgId = 0x07 := by decide
theorem test_witness_StartupIgnoresOthers :
    inboundMessage par (.rxAck [6, 1]) = some (0x05, 0x01, [6, 1], .ack (decodeEcho [6, 1])) ∧
    (Instr.rxAck [6, 1]).wellFormed (waiting .setRate 0 0).par = true ∧ (waiting .setRate 0 0).mode = .startup ∧
    (waiting .setRate 0 0).answered (.ack (decodeEcho [6, 1])) = false ∧
    (∀ x, DecodedMessage.ack (decodeEcho [6, 1]) = .rateConfig x → (waiting .setRate 0 0).seq.step ≠ .pollRate) ∧
    (∀ x, DecodedMessage.ack (decodeEcho [6, 1]) = .msgEnableConfig x →
      ¬ ((waiting .setRate 0 0).seq.step = .pollFixConfig ∧ x.msgClass = 0x01 ∧ x.msgId = 0x07)) :=
  ⟨rfl, by decide, by decide, by decide, (by intro x h; cases h), (by intro x h; cases h)⟩
theorem test_witness_TickEffect_outside : s0.mode = .idle ∨ s0.mode = .stopped := by decide
theorem test_witness_TickEffect_counting :
    (waiting .setRate 0 1).mode = .startup ∧
    (waiting .setRate 0 1).seq.wait + 1 < (waiting .setRate 0 1).par.ackTimeout := by decide
theorem test_witness_TickEffect_timeout :
    (waiting .setRate 0 2).mode = .startup ∧
    (waiting .setRate 0 2).par.ackTimeout ≤ (waiting .setRate 0 2).seq.wait + 1 := by decide
theorem test_witness_TickEffect_idle :
    (inMode .stream).mode = .stream ∧ (inMode .stream).stream.rxIdle + 1 < (inMode .stream).par.rxTimeout := by decide
theorem test_witness_TickEffect_stop :
    ({ inMode .stream with stream.rxIdle := 1 } : State).mode = .stream ∧
    par.rxTimeout ≤ ({ inMode .stream with stream.rxIdle := 1 } : State).stream.rxIdle + 1 := by decide
theorem test_witness_CancelEffect :
    ((inMode .stopped).mode = .idle ∨ (inMode .stopped).mode = .stopped) ∧ (inMode .startup).mode = .startup ∧
    (inMode .stream).mode = .stream := by decide
theorem test_witness_PowerOnIsReset : ∃ t, exec .reset s0 = .next t := ⟨_, rfl⟩
theorem test_witness_CountersOnlyCount_counting :
    (∃ t, exec .rxError s0 = .next t) ∧ Instr.rxError ≠ .reset := ⟨⟨_, rfl⟩, by decide⟩
theorem test_witness_CountersOnlyCount_reset : ∃ t, exec .reset s0 = .next t := ⟨_, rfl⟩
theorem test_witness_StickyBitsStay :
    (∃ t, exec .rxError { s0 with errSticky := 0x0400 } = .next t) ∧
    ({ s0 with errSticky := 0x0400 } : State).errSticky.getLsbD 10 = true ∧
    ({ s0 with errSticky := 0x0400 } : State).errSticky &&& 0xF801 = 0 := ⟨⟨_, rfl⟩, by decide, by decide⟩
theorem test_witness_OnlyPublishWritesOutput :
    (inMode .stream).Inv ∧ tickWord ≠ resetWord ∧ ∃ t, exec (decodeWord tickWord) (inMode .stream) = .next t :=
  ⟨inv_stream, by decide, _, rfl⟩
theorem test_witness_PhasesNeverOverlap_stream :
    (inMode .stream).mode = .stream ∧ ∃ t, exec (decodeWord 0x4000) (inMode .stream) = .next t := ⟨by decide, _, rfl⟩
theorem test_witness_PhasesNeverOverlap_startup :
    (waiting .setRate 0 2).mode = .startup ∧ ∃ t, exec (decodeWord tickWord) (waiting .setRate 0 2) = .next t :=
  ⟨by decide, _, rfl⟩
theorem test_witness_OutputOrders : ∃ t, exec (decodeWord 0x1037) ackArriving = .next t := ⟨_, rfl⟩
theorem test_witness_ParametersFixed : ∃ t, exec .reset s0 = .next t := ⟨_, rfl⟩
theorem test_witness_StaleBytesUnobserved :
    ackArriving.Inv ∧ ackArrivingToo.Inv ∧
    ackArrivingToo =
      { ackArriving with framer.fPay := ackArrivingToo.framer.fPay, draws := ackArrivingToo.draws } ∧
    (∀ k < ackArriving.payloadArrived, ackArriving.payByte k = ackArrivingToo.payByte k) ∧
    ∃ t, exec (decodeWord 0x1037) ackArriving = .next t :=
  ⟨inv_ackArriving, inv_ackArrivingToo, rfl, by decide, _, rfl⟩
theorem test_witness_InvKeptByStep : (waiting .setRate 1 2).Inv ∧ ∃ t, step (waiting .setRate 1 2) = .next t :=
  ⟨inv_waiting, _, rfl⟩
theorem test_witness_NeverStops : ackArriving.Inv := inv_ackArriving
theorem test_witness_BoundedStartup_plain :
    s0.Inv ∧ (s0.mode = .idle ∨ s0.mode = .stopped) ∧ (∃ s1, exec (.startSeq .r4x2 false) s0 = .next s1) ∧
    resetWord ∉ List.replicate 18 tickWord ∧
    (if false then 10 else 6) * s0.par.ackTimeout.toNat ≤ tickCount (List.replicate 18 tickWord) :=
  ⟨inv_s0, by decide, ⟨_, rfl⟩, by decide, by decide⟩
theorem test_witness_BoundedStartup_verify :
    s0.Inv ∧ (s0.mode = .idle ∨ s0.mode = .stopped) ∧ (∃ s1, exec (.startSeq .r4x2 true) s0 = .next s1) ∧
    resetWord ∉ List.replicate 30 tickWord ∧
    (if true then 10 else 6) * s0.par.ackTimeout.toNat ≤ tickCount (List.replicate 30 tickWord) :=
  ⟨inv_s0, by decide, ⟨_, rfl⟩, by decide, by decide⟩
theorem test_witness_BoundedSends :
    (s0.mode = .idle ∨ s0.mode = .stopped) ∧
    ∃ s1 t, exec (.startSeq .r4x2 true) s0 = .next s1 ∧ noNewRun [0x4001] s1 ∧ runEvents [0x4001] s1 = .next t :=
  ⟨by decide, s0.startSequence .r4x2 true, _, rfl, ⟨fun h => absurd rfl h, fun _ _ => trivial⟩, rfl⟩

end Sys2Proof.Tests
end

section
/-! PROOF. Steps and event words (family 00_scope.md). Every event word decodes to an instruction its row describes,
and a step runs the instruction of the oldest delivered word. -/

namespace Sys2Proof.Machine

/-! ### The decoded instruction is well formed -/

/-- A branch of the decoder: the legal instruction when the reserved bits are 0, else the refused one, whose row asks
for exactly that they are not (R96). -/
theorem wellFormed_ite {par : Params} {reservedZero : Prop} [Decidable reservedZero] {legal refused : Instr}
    (hl : legal.wellFormed par = true) (hr : ¬ reservedZero → refused.wellFormed par = true) :
    (if reservedZero then legal else refused).wellFormed par = true := by
  split
  · exact hl
  · exact hr ‹_›

/-- The decoder sends a word to a refused class only when the word has the bits that class is refused for (R96). -/
theorem decodeWord_wellFormed (par : Params) (w : U16) : (decodeWord w).wellFormed par = true := by
  unfold decodeWord
  dsimp only
  split
  · rfl -- ILLEGAL_OP 0, which has no reserved bits
  · exact wellFormed_ite rfl decide_eq_true -- RX_BYTE
  · exact wellFormed_ite rfl decide_eq_true -- RX_ERROR
  · exact wellFormed_ite rfl decide_eq_true -- TICK
  · exact wellFormed_ite rfl decide_eq_true -- START_SEQ
  · exact wellFormed_ite rfl decide_eq_true -- START_STREAM
  · exact wellFormed_ite rfl decide_eq_true -- CANCEL
  · exact wellFormed_ite rfl decide_eq_true -- RESET
  · rfl -- operations 0x8 to 0xF, which have no reserved bits

/-! ### The step -/

/-- Settles O1: the fetch takes the oldest word (`step_cons`, and `step_nil` when there is none), and what it decodes to
is well formed (`decodeWord_wellFormed`). -/
theorem stepRunsDecodedWord : Obligations.StepRunsDecodedWord := by
  unfold Obligations.StepRunsDecodedWord
  refine ⟨fun s w rest hbox => ⟨?decodes, ?wellFormed, ?runs⟩, fun s hbox => step_nil hbox⟩
  case decodes => rfl
  case wellFormed => exact decodeWord_wellFormed s.par w
  case runs => exact step_cons hbox

end Sys2Proof.Machine
end

section
/-! PROOF. The counters and the sticky bits (family 10_state.md, R44, R45). One walk through the instructions says what
each of them does to both, `exec_tallies`; the two statements read it off. -/

namespace Sys2Proof.Machine

variable {s t u : State}

/-! ### The bits causes set -/

/-- A cause's bit is bit `n` for the cause of code `n` and no other (10_state.md R45). -/
theorem Cause.getLsbD_bit (c : Cause) (n : Nat) : c.bit.getLsbD n = decide (n = c.code) := by
  have small : c.code < 16 := by cases c <;> decide
  rw [Cause.bit, BitVec.getLsbD_shiftLeft, BitVec.getLsbD_one, Bool.eq_iff_iff]
  simp only [Bool.and_eq_true, Bool.not_eq_true', decide_eq_true_eq, decide_eq_false_iff_not]
  omega

/-- No cause has code 0 or a code of 11 to 15. -/
theorem Cause.bit_and_reserved (c : Cause) : c.bit &&& 0xF801 = 0 := by
  cases c <;> rfl

/-- `err_sticky` after the causes `cs` are raised on the value `v`, first to last (10_state.md R45). -/
def raiseAll (cs : List Cause) (v : U16) : U16 := cs.foldl (fun v c => v ||| c.bit) v

/-- Raising one cause is `State.raise` of it. -/
theorem State.raise_eq_raiseAll (c : Cause) (s : State) : (s.raise c).errSticky = raiseAll [c] s.errSticky := rfl

theorem raiseAll_append (cs ds : List Cause) (v : U16) : raiseAll (cs ++ ds) v = raiseAll ds (raiseAll cs v) :=
  List.foldl_append

/-- Raising causes clears no bit. -/
theorem getLsbD_raiseAll {v : U16} {n : Nat} (h : v.getLsbD n = true) (cs : List Cause) :
    (raiseAll cs v).getLsbD n = true := by
  induction cs generalizing v with
  | nil => exact h
  | cons c cs ih => exact ih (v := v ||| c.bit) (by simp [h])

/-- Raising one cause leaves the unused bits 0. -/
theorem or_bit_and_reserved {v : U16} (h : v &&& 0xF801 = 0) (c : Cause) : (v ||| c.bit) &&& 0xF801 = 0 := by
  rw [BitVec.and_comm, BitVec.and_or_distrib_left, BitVec.and_comm, h, BitVec.and_comm, c.bit_and_reserved]
  rfl

/-- Raising causes leaves the unused bits 0. -/
theorem raiseAll_and_reserved {v : U16} (h : v &&& 0xF801 = 0) (cs : List Cause) :
    raiseAll cs v &&& 0xF801 = 0 := by
  induction cs generalizing v with
  | nil => exact h
  | cons c cs ih => exact ih (or_bit_and_reserved h c)

/-! ### What a step may do to the counters and to err_sticky -/

/-- From `c` to `d` each of the seven counters is as before or one more modulo 2^32 (10_state.md R44). -/
structure Counters.CountOn (c d : Counters) : Prop where
  framesOk : d.framesOk = c.framesOk ∨ d.framesOk = c.framesOk + 1
  ckErr : d.ckErr = c.ckErr ∨ d.ckErr = c.ckErr + 1
  lenErr : d.lenErr = c.lenErr ∨ d.lenErr = c.lenErr + 1
  abort : d.abort = c.abort ∨ d.abort = c.abort + 1
  rxErr : d.rxErr = c.rxErr ∨ d.rxErr = c.rxErr + 1
  unrec : d.unrec = c.unrec ∨ d.unrec = c.unrec + 1
  illegal : d.illegal = c.illegal ∨ d.illegal = c.illegal + 1

theorem Counters.CountOn.refl (c : Counters) : c.CountOn c :=
  ⟨.inl rfl, .inl rfl, .inl rfl, .inl rfl, .inl rfl, .inl rfl, .inl rfl⟩

/-- From `s` to `t` the counters count on, and `err_sticky` changes by raised causes alone. -/
structure State.Tallies (s t : State) : Prop where
  counters : s.cnt.CountOn t.cnt
  sticky : ∃ cs, t.errSticky = raiseAll cs s.errSticky

/-- Nothing is counted or raised. -/
theorem State.Tallies.of_eq (hc : t.cnt = s.cnt) (he : t.errSticky = s.errSticky) : s.Tallies t :=
  ⟨hc ▸ .refl _, [], he⟩

/-- What is raised afterwards, with nothing more counted. -/
theorem State.Tallies.raise (h : s.Tallies t) (hc : u.cnt = t.cnt)
    (he : ∃ cs, u.errSticky = raiseAll cs t.errSticky) : s.Tallies u := by
  obtain ⟨count, cs, hcs⟩ := h
  obtain ⟨ds, hds⟩ := he
  exact ⟨hc ▸ count, cs ++ ds, by rw [hds, hcs, raiseAll_append]⟩

/-- What came before, with nothing counted or raised. -/
theorem State.Tallies.of_start (h : u.Tallies t) (hc : u.cnt = s.cnt) (he : u.errSticky = s.errSticky) :
    s.Tallies t :=
  ⟨hc ▸ h.counters, he ▸ h.sticky⟩

/-! ### Each operation -/

theorem State.tallies_refuse (s : State) (w : U16) : s.Tallies (s.refuse w) :=
  ⟨⟨.inl rfl, .inl rfl, .inl rfl, .inl rfl, .inl rfl, .inl rfl, .inr rfl⟩, [.illegalEvent], rfl⟩

theorem State.tallies_rejectFrame (s : State) (b : Byte) : s.Tallies (s.rejectFrame b) :=
  ⟨⟨.inl rfl, .inr rfl, .inl rfl, .inl rfl, .inl rfl, .inl rfl, .inl rfl⟩, [.checksum], rfl⟩

theorem State.tallies_transportFailed (s : State) : s.Tallies s.transportFailed := by
  unfold State.transportFailed State.abortFrame
  split
  · exact ⟨⟨.inl rfl, .inl rfl, .inl rfl, .inl rfl, .inr rfl, .inl rfl, .inl rfl⟩, [.transportError], rfl⟩
  · exact ⟨⟨.inl rfl, .inl rfl, .inl rfl, .inr rfl, .inr rfl, .inl rfl, .inl rfl⟩,
      [.framingAbort, .transportError], rfl⟩

theorem State.tallies_stopStream (s : State) (r : StopReason) : s.Tallies (s.stopStream r) :=
  ⟨.refl _, [r.cause], rfl⟩

theorem State.tallies_stepFailed (s : State) (r : FailReason) : s.Tallies (s.stepFailed r) := by
  rcases s.stepFailed_cases r with ⟨_, e⟩ | ⟨_, e⟩ <;> rw [e]
  · exact ⟨.refl _, [r.cause], rfl⟩
  · exact ⟨.refl _, [r.cause, .configurationFailed], rfl⟩

theorem State.tallies_cancelSequence (s : State) : s.Tallies s.cancelSequence :=
  ⟨.refl _, [.cancelled], rfl⟩

theorem State.tallies_seqOnMsg (s : State) (m : DecodedMessage) : s.Tallies (s.seqOnMsg m) := by
  rcases s.seqOnMsg_cases m with e | ⟨_, _, _, e⟩ | ⟨_, _, _, e⟩ | ⟨_, _, _, e⟩ | ⟨_, _, _, _, _, e⟩ <;> rw [e]
  · exact .of_eq rfl rfl
  · exact .of_eq s.stepOk_cnt s.stepOk_errSticky
  · exact s.tallies_stepFailed _
  · exact .of_eq rfl rfl
  · exact .of_eq rfl rfl

theorem State.tallies_route (s : State) (m : DecodedMessage) : s.Tallies (s.route m) := by
  rcases s.route_cases m with e | ⟨_, e⟩ | ⟨_, _, _, e⟩ <;> rw [e]
  · exact .of_eq rfl rfl
  · exact s.tallies_seqOnMsg m
  · exact .of_eq rfl rfl

theorem State.tallies_recordFrame (s : State) (f : RawFrame) (m : DecodedMessage) :
    s.Tallies (s.recordFrame f m) := by
  refine ⟨⟨.inr rfl, .inl rfl, .inl rfl, .inl rfl, .inl rfl, ?unrec, .inl rfl⟩, [], rfl⟩
  cases m with
  | unrecognized c i => exact .inr rfl
  | _ => exact .inl rfl

/-- The hand-off counts in its record, and raises what routing the message raises. -/
theorem State.tallies_acceptFrame (s : State) (f : RawFrame) (m : DecodedMessage) :
    s.Tallies (s.acceptFrame f m) :=
  (s.tallies_recordFrame f m).raise (s.acceptFrame_cnt f m)
    (((s.recordFrame f m).emit (.frameOk f)).emit (.msg m) |>.tallies_route m).sticky

theorem State.tallies_framerByte {b : Byte} (h : s.framerByte b = .next t) : s.Tallies t := by
  rcases s.framerByte_effect h with e | e | ⟨_, f, m, rfl⟩ | ⟨_, rfl⟩
  · exact e ▸ .of_eq rfl rfl
  · exact e ▸ ⟨⟨.inl rfl, .inl rfl, .inr rfl, .inl rfl, .inl rfl, .inl rfl, .inl rfl⟩, [.framingLength], rfl⟩
  · exact s.tallies_acceptFrame f m
  · exact s.tallies_rejectFrame b

/-- An over-long message is the length byte that ends its envelope. -/
theorem State.framerByte_loadEnvelope (s : State) (c i lo b : Byte) :
    (s.loadEnvelope c i lo).framerByte b = .next ((s.loadEnvelope c i lo).lengthHigh b) :=
  (State.framerByte_envelope rfl).trans (State.envelope_three rfl)

theorem execRxError_tallies (h : execRxError s = .next t) : s.Tallies t := by
  rcases execRxError_cases h with ⟨_, rfl⟩ | ⟨_, rfl⟩
  · exact s.tallies_transportFailed.raise rfl (s.transportFailed.tallies_stopStream _).sticky
  · exact s.tallies_transportFailed

theorem execTick_tallies (h : execTick s = .next t) : s.Tallies t := by
  rcases execTick_cases h with ⟨_, rfl⟩ | ⟨_, _, rfl⟩ | ⟨_, _, rfl⟩ | ⟨_, _, rfl⟩ | ⟨_, _, rfl⟩
  · exact .of_eq rfl rfl
  · exact .of_eq rfl rfl
  · exact (State.tallies_stepFailed _ _).of_start rfl rfl
  · exact .of_eq rfl rfl
  · exact (State.tallies_stopStream _ _).of_start rfl rfl

theorem execCancel_tallies (h : execCancel s = .next t) : s.Tallies t := by
  rcases execCancel_cases h with ⟨_, rfl⟩ | ⟨_, rfl⟩ | ⟨_, rfl⟩
  · exact .of_eq rfl rfl
  · exact s.tallies_cancelSequence
  · exact s.tallies_stopStream _

theorem exec_word_tallies {w : U16} (h : exec (decodeWord w) s = .next t) (hw : decodeWord w ≠ .reset) :
    s.Tallies t := by
  rcases exec_word_cases h with ⟨b, _, h⟩ | ⟨_, _, _, rfl⟩ | ⟨_, h⟩ | ⟨_, h⟩ | ⟨_, _, _, _, rfl⟩ | ⟨_, _, _, rfl⟩ |
    ⟨_, h⟩ | ⟨h, _⟩
  · exact (State.tallies_framerByte h).of_start s.noteByte_cnt s.noteByte_errSticky -- RX_BYTE
  · exact s.tallies_refuse _ -- a refused word
  · exact execRxError_tallies h -- RX_ERROR
  · exact execTick_tallies h -- TICK
  · exact .of_eq rfl rfl -- START_SEQ
  · exact .of_eq rfl rfl -- START_STREAM
  · exact execCancel_tallies h -- CANCEL
  · exact absurd h hw -- RESET

/-- Every instruction but RESET counts each counter on by at most one, and changes `err_sticky` by raising causes. -/
theorem exec_tallies {i : Instr} (h : exec i s = .next t) (hi : i ≠ .reset) : s.Tallies t := by
  rcases exec_cases h with ⟨w, rfl⟩ | ⟨c, id, p, _, hm⟩ | ⟨c, id, len, _, rfl⟩ | ⟨c, _, rfl⟩ | ⟨w, _, rfl⟩
  · exact exec_word_tallies h hi
  · obtain ⟨_, rfl⟩ := State.receiveFrame_cases hm
    exact (State.tallies_acceptFrame _ _ _).of_start s.noteByte_cnt s.noteByte_errSticky
  · exact (State.tallies_framerByte (State.framerByte_loadEnvelope ..)).of_start s.noteByte_cnt s.noteByte_errSticky
  · exact .of_eq rfl rfl
  · exact s.tallies_refuse w

/-! ### The statements -/

/-- Settles O49: RESET gives the counters of power-on, and every other instruction counts on (`exec_tallies`). -/
theorem countersOnlyCount : Obligations.CountersOnlyCount := by
  unfold Obligations.CountersOnlyCount
  intro i s t h
  constructor
  · intro hi
    obtain ⟨framesOk, ckErr, lenErr, abort, rxErr, unrec, illegal⟩ := (exec_tallies h hi).counters
    exact ⟨framesOk, ckErr, lenErr, abort, rxErr, unrec, illegal⟩
  · rintro rfl
    cases h
    rfl

/-- Settles O50: RESET gives 0, and every other instruction raises causes (`exec_tallies`), each of which sets its own
bit and no other (`Cause.getLsbD_bit`). -/
theorem stickyBitsStay : Obligations.StickyBitsStay := by
  unfold Obligations.StickyBitsStay
  refine ⟨?raise, fun i s t h => ?step, rfl⟩
  case raise =>
    intro c s n
    rw [State.raise_errSticky, BitVec.getLsbD_or, c.getLsbD_bit]
  case step =>
    by_cases hi : i = .reset
    · subst hi
      cases h
      exact ⟨fun hne => absurd rfl hne, fun _ => rfl, fun _ => BitVec.zero_and⟩
    · obtain ⟨cs, hcs⟩ := (exec_tallies h hi).sticky
      rw [hcs]
      exact ⟨fun _ n hn => getLsbD_raiseAll hn cs, fun hr => absurd hr hi, fun h0 => raiseAll_and_reserved h0 cs⟩

end Sys2Proof.Machine
end

section
/-! PROOF. The invariant is kept (family 10_state.md). Each part of the invariant reads its own registers only, so an
operation of the framer owes the framer's and the checksum's parts, and one of the sequencer or the stream owes theirs;
the operations then compose as the steps of the block do. -/

namespace Sys2Proof.Machine

variable {s t : State}

/-! ### What each part reads -/

theorem State.FramerInv.congr (h : s.FramerInv) (hframer : t.framer = s.framer) (hpar : t.par = s.par) :
    t.FramerInv := by
  cases s; cases t
  dsimp only at hframer hpar
  subst hframer hpar
  exact ⟨h.payCanonical, h.payInside, h.seeking, h.envelope, h.payload, h.checksum, h.window⟩

theorem State.ChecksumInv.congr (h : s.ChecksumInv) (hframer : t.framer = s.framer) (hdraws : t.draws = s.draws) :
    t.ChecksumInv := by
  cases s; cases t
  dsimp only at hframer hdraws
  subst hframer hdraws
  exact ⟨h.running, h.lengthLow, h.written⟩

/-- The sequencer's part reads neither the preset nor the read-back and warning registers. -/
theorem State.SequencerInv.congr (h : s.SequencerInv) (hmode : t.mode = s.mode := by simp)
    (hpar : t.par = s.par := by simp) (hstate : t.seq.state = s.seq.state := by simp)
    (hstep : t.seq.step = s.seq.step := by simp) (hverify : t.seq.verify = s.seq.verify := by simp)
    (hretries : t.seq.retries = s.seq.retries := by simp) (hwait : t.seq.wait = s.seq.wait := by simp)
    (hfailStep : t.seq.failStep = s.seq.failStep := by simp)
    (hfailReason : t.seq.failReason = s.seq.failReason := by simp) : t.SequencerInv where
  awaitIff := by rw [hstate, hmode]; exact h.awaitIff
  retries := by rw [hretries]; exact h.retries
  wait := by rw [hstate, hwait, hpar]; exact h.wait
  failed := by rw [hstate, hfailStep, hstep, hfailReason]; exact h.failed
  notFailed := by rw [hstate, hfailStep]; exact h.notFailed
  noPolls := by rw [hverify, hstep]; exact h.noPolls

theorem State.StreamInv.congr (h : s.StreamInv) (hmode : t.mode = s.mode := by simp)
    (hpar : t.par = s.par := by simp) (hstream : t.stream = s.stream := by simp)
    (hstate : t.seq.state = s.seq.state := by simp) : t.StreamInv where
  idle := by rw [hmode, hstream, hpar]; exact h.idle
  running := by rw [hmode, hstream]; exact h.running
  stopped := by rw [hmode, hstream]; exact h.stopped
  confirmed := by rw [hmode, hstate]; exact h.confirmed
  unpublished := by rw [hstream]; exact h.unpublished

theorem State.RecordInv.congr (h : s.RecordInv) (hframe : t.lastFrame = s.lastFrame) (hmsg : t.lastMsg = s.lastMsg)
    (hpar : t.par = s.par) : t.RecordInv where
  together := by rw [hframe, hmsg]; exact h.together
  valid := by rw [hframe, hmsg, hpar]; exact h.valid

/-- An operation of the sequencer or the stream. -/
theorem State.Inv.of_control (h : s.Inv) (hseq : t.SequencerInv) (hstream : t.StreamInv)
    (hsticky : t.errSticky &&& 0xF801 = 0) (hframer : t.framer = s.framer := by simp)
    (hpar : t.par = s.par := by simp) (hdraws : t.draws = s.draws := by simp)
    (hframe : t.lastFrame = s.lastFrame := by simp) (hmsg : t.lastMsg = s.lastMsg := by simp) : t.Inv where
  par := by rw [hpar]; exact h.par
  framer := h.framer.congr hframer hpar
  checksum := h.checksum.congr hframer hdraws
  sequencer := hseq
  stream := hstream
  record := h.record.congr hframe hmsg hpar
  sticky := hsticky

/-- An operation of the framer. -/
theorem State.Inv.of_framer (h : s.Inv) (hframer : t.FramerInv) (hchecksum : t.ChecksumInv)
    (ht : t = { s with framer := t.framer }) : t.Inv where
  par := by rw [ht]; exact h.par
  framer := hframer
  checksum := hchecksum
  sequencer := by rw [ht]; exact h.sequencer.congr
  stream := by rw [ht]; exact h.stream.congr
  record := by rw [ht]; exact h.record.congr rfl rfl rfl
  sticky := by rw [ht]; exact h.sticky

/-- No part reads the counters, the words still to come or the output. -/
theorem State.Inv.setCntInboxOut (h : s.Inv) (c : Counters) (i : List U16) (o : List OutEvent) :
    ({ s with cnt := c, inbox := i, out := o } : State).Inv :=
  h.of_control h.sequencer.congr h.stream.congr h.sticky

theorem State.Inv.emit (h : s.Inv) (e : OutEvent) : (s.emit e).Inv :=
  h.setCntInboxOut s.cnt s.inbox (s.out ++ [e])

theorem State.Inv.raise (h : s.Inv) (c : Cause) : (s.raise c).Inv :=
  h.of_control h.sequencer.congr h.stream.congr (or_bit_and_reserved h.sticky c)

theorem State.Inv.refuse (h : s.Inv) (w : U16) : (s.refuse w).Inv :=
  ((h.setCntInboxOut { s.cnt with illegal := s.cnt.illegal + 1 } s.inbox s.out).raise .illegalEvent).emit _

/-! ### The timers' limits -/

theorem Params.ackTimeout_pos {p : Params} (h : p.wf = true) : 0 < p.ackTimeout := by
  simp only [Params.wf, Bool.and_eq_true, decide_eq_true_eq] at h
  obtain ⟨⟨_, hack⟩, _⟩ := h
  exact BitVec.lt_def.2 hack

theorem Params.rxTimeout_pos {p : Params} (h : p.wf = true) : 0 < p.rxTimeout := by
  simp only [Params.wf, Bool.and_eq_true, decide_eq_true_eq] at h
  exact BitVec.lt_def.2 h.2

/-! ### The sequencer -/

/-- In STARTUP a run waits (10_state.md R32). -/
theorem State.Inv.await (h : s.Inv) (hm : s.mode = .startup) : s.seq.state = .await :=
  h.sequencer.awaitIff.2 hm

/-- A run that waits has no failed step (10_state.md R36). -/
theorem State.Inv.failStep_none (h : s.Inv) (hm : s.mode = .startup) : s.seq.failStep = none :=
  h.sequencer.notFailed (by simp [h.await hm])

/-- The sequencer's part while a run waits. -/
theorem State.sequencerInv_await (hstate : t.seq.state = .await) (hmode : t.mode = .startup)
    (hretries : t.seq.retries ≤ retryLimit) (hwait : t.seq.wait < t.par.ackTimeout)
    (hfailStep : t.seq.failStep = none)
    (hpolls : t.seq.verify = false → t.seq.step ≠ .pollRate ∧ t.seq.step ≠ .pollFixConfig) : t.SequencerInv where
  awaitIff := by simp [hstate, hmode]
  retries := hretries
  wait := fun _ => hwait
  failed := by simp [hstate]
  notFailed := fun _ => hfailStep
  noPolls := hpolls

/-- The sequencer's part when a run ends without failure. -/
theorem State.Inv.sequencerInv_ended (h : s.Inv) (hm : s.mode = .startup) {x : SeqState} (hx : x ≠ .await)
    (hseq : t.seq = { s.seq with state := x }) (hmode : t.mode = .idle) (hfailed : x ≠ .failed) :
    t.SequencerInv where
  awaitIff := by simp [hseq, hmode, hx]
  retries := by rw [hseq]; exact h.sequencer.retries
  wait := by simp [hseq, hx]
  failed := by simp [hseq, hfailed]
  notFailed := by rw [hseq]; exact fun _ => h.failStep_none hm
  noPolls := by rw [hseq]; exact h.sequencer.noPolls

/-- Outside STREAM and STOPPED the stream's part speaks of the output pair alone. -/
theorem State.StreamInv.of_not_streaming (h : s.StreamInv) (hmode : t.mode = .idle ∨ t.mode = .startup)
    (hstream : t.stream = s.stream) : t.StreamInv := by
  have hno : t.mode ≠ .stream ∧ t.mode ≠ .stopped := by rcases hmode with e | e <;> simp [e]
  exact ⟨fun e => absurd e hno.1, fun e => absurd e hno.1, fun e => absurd e hno.2,
    fun e => absurd e (not_or.2 hno), by rw [hstream]; exact h.unpublished⟩

theorem State.Inv.startSequence (h : s.Inv) (p : Preset) (v : Bool) : (s.startSequence p v).Inv :=
  h.of_control
    (sequencerInv_await rfl rfl (Nat.zero_le _) (Params.ackTimeout_pos h.par) rfl (fun _ => by simp))
    (h.stream.of_not_streaming (.inr rfl) rfl) h.sticky

theorem State.Inv.enterStep (h : s.Inv) (hm : s.mode = .startup) {n : SeqStep}
    (hn : s.seq.verify = false → n ≠ .pollRate ∧ n ≠ .pollFixConfig) : (s.enterStep n).Inv :=
  h.of_control
    (sequencerInv_await (h.await hm) hm (Nat.zero_le _) (Params.ackTimeout_pos h.par) (h.failStep_none hm) hn)
    (h.stream.of_not_streaming (.inr hm) rfl) h.sticky

theorem State.Inv.complete (h : s.Inv) (hm : s.mode = .startup) : s.complete.Inv :=
  h.of_control (h.sequencerInv_ended hm (x := .done) (by simp) rfl rfl (by simp))
    (h.stream.of_not_streaming (.inl rfl) rfl) h.sticky

theorem State.Inv.cancelSequence (h : s.Inv) (hm : s.mode = .startup) : s.cancelSequence.Inv :=
  h.of_control (h.sequencerInv_ended hm (x := .cancelled) (by simp) rfl rfl (by simp))
    (h.stream.of_not_streaming (.inl rfl) rfl) (or_bit_and_reserved h.sticky _)

theorem State.Inv.checkReadback (h : s.Inv) : s.checkReadback.Inv :=
  h.of_control h.sequencer.congr h.stream.congr (by simpa using h.sticky)

/-- Without verification no step leads to a poll (44_sequencer.md R211). -/
theorem nextStep_no_poll {x n : SeqStep} (h : nextStep false x = some n) (hx : x ≠ .pollRate) :
    n ≠ .pollRate ∧ n ≠ .pollFixConfig := by
  cases x with
  | setProtocolFilter => cases h; simp
  | setRate => cases h; simp
  | enableFixOutput => cases h
  | pollRate => exact absurd rfl hx
  | pollFixConfig => cases h

theorem State.Inv.stepOk (h : s.Inv) (hm : s.mode = .startup) : s.stepOk.Inv := by
  have checked := h.checkReadback.emit (.seqStepOk s.seq.step)
  have hmode : (s.checkReadback.emit (.seqStepOk s.seq.step)).mode = .startup := by simpa using hm
  rcases s.stepOk_cases with ⟨n, hn, e⟩ | ⟨_, e⟩ <;> rw [e]
  · refine checked.enterStep hmode fun hv => ?_
    have hv : s.seq.verify = false := by simpa using hv
    rw [hv] at hn
    exact nextStep_no_poll hn (h.sequencer.noPolls hv).1
  · exact checked.complete hmode

/-- A failed step is tried again or ends the run, whatever the wait stood at. -/
theorem State.Inv.stepFailed (h : s.Inv) (hm : s.mode = .startup) (n : U32) (r : FailReason) :
    (State.stepFailed r { s with seq.wait := n }).Inv := by
  rcases State.stepFailed_cases { s with seq.wait := n } r with ⟨hr, e⟩ | ⟨hr, e⟩ <;> rw [e]
  · exact h.of_control
      (sequencerInv_await (h.await hm) hm hr (Params.ackTimeout_pos h.par) (h.failStep_none hm) h.sequencer.noPolls)
      (h.stream.of_not_streaming (.inr hm) rfl) (or_bit_and_reserved h.sticky _)
  · refine h.of_control ?failed (h.stream.of_not_streaming (.inl rfl) rfl)
      (or_bit_and_reserved (or_bit_and_reserved h.sticky _) _)
    exact ⟨by simp, h.sequencer.retries, by simp, fun _ => ⟨rfl, rfl⟩, by simp, h.sequencer.noPolls⟩

theorem State.Inv.seqOnMsg (h : s.Inv) (hm : s.mode = .startup) (m : DecodedMessage) : (s.seqOnMsg m).Inv := by
  rcases s.seqOnMsg_cases m with e | ⟨_, _, _, e⟩ | ⟨_, _, _, e⟩ | ⟨_, _, _, e⟩ | ⟨_, _, _, _, _, e⟩ <;> rw [e]
  · exact h
  · exact h.stepOk hm
  · exact h.stepFailed hm s.seq.wait _
  · exact h.of_control h.sequencer.congr h.stream.congr h.sticky
  · exact h.of_control h.sequencer.congr h.stream.congr h.sticky

/-! ### The stream -/

/-- While the stream runs no startup run waits (10_state.md R32). -/
theorem State.Inv.not_await (h : s.Inv) (hm : s.mode ≠ .startup) : s.seq.state ≠ .await :=
  fun e => hm (h.sequencer.awaitIff.1 e)

/-- The sequencer's part when the mode changes and no run waits before or after. -/
theorem State.Inv.sequencerInv_mode (h : s.Inv) (hm : s.mode ≠ .startup) (hseq : t.seq = s.seq)
    (hmode : t.mode ≠ .startup) : t.SequencerInv where
  awaitIff := by rw [hseq]; exact iff_of_false (h.not_await hm) hmode
  retries := by rw [hseq]; exact h.sequencer.retries
  wait := by rw [hseq]; exact fun e => absurd e (h.not_await hm)
  failed := by rw [hseq]; exact h.sequencer.failed
  notFailed := by rw [hseq]; exact h.sequencer.notFailed
  noPolls := by rw [hseq]; exact h.sequencer.noPolls

theorem State.Inv.startStream (h : s.Inv) (hm : s.mode = .idle ∨ s.mode = .stopped)
    (hstate : s.seq.state = .notRun ∨ s.seq.state = .done) : s.startStream.Inv := by
  have hno : s.mode ≠ .startup := by rcases hm with e | e <;> simp [e]
  refine h.of_control (h.sequencerInv_mode hno rfl (by simp)) ?stream h.sticky
  exact ⟨fun _ => Params.rxTimeout_pos h.par, fun _ => rfl, by simp, fun _ => hstate, h.stream.unpublished⟩

/-- The stream stops, whatever the idle count stood at. -/
theorem State.Inv.stopStream (h : s.Inv) (hm : s.mode = .stream) (n : U32) (r : StopReason) :
    (State.stopStream r { s with stream.rxIdle := n }).Inv := by
  refine h.of_control (h.sequencerInv_mode (by simp [hm]) rfl (by simp)) ?stream (or_bit_and_reserved h.sticky _)
  exact ⟨by simp, by simp, fun _ => rfl, fun _ => h.stream.confirmed (.inl hm), h.stream.unpublished⟩

/-- The idle count moves below its limit. -/
theorem State.Inv.setRxIdle (h : s.Inv) {n : U32} (hn : n < s.par.rxTimeout) :
    ({ s with stream.rxIdle := n } : State).Inv :=
  h.of_control h.sequencer.congr
    ⟨fun _ => hn, h.stream.running, h.stream.stopped, h.stream.confirmed, h.stream.unpublished⟩ h.sticky

theorem State.Inv.noteByte (h : s.Inv) : s.noteByte.Inv := by
  unfold State.noteByte
  split
  · exact h.setRxIdle (Params.rxTimeout_pos h.par)
  · exact h

theorem State.Inv.publish (h : s.Inv) (r : FixRecord) : (s.publish r).Inv :=
  h.of_control h.sequencer.congr
    ⟨h.stream.idle, h.stream.running, h.stream.stopped, h.stream.confirmed, by simp⟩ h.sticky

theorem State.Inv.route (h : s.Inv) (m : DecodedMessage) : (s.route m).Inv := by
  rcases s.route_cases m with e | ⟨hm, e⟩ | ⟨_, r, _, e⟩ <;> rw [e]
  · exact h
  · exact h.seqOnMsg hm m
  · exact h.publish r

/-! ### The framer's part, by its state -/

/-- The buffer's cells are canonical and inside the buffer (20_memory.md R61). -/
structure State.BufferInv (s : State) : Prop where
  canonical : s.framer.fPay.wf
  inside : ∀ c ∈ s.framer.fPay, c.1 < s.par.maxPayload

theorem State.FramerInv.buffer (h : s.FramerInv) : s.BufferInv := ⟨h.payCanonical, h.payInside⟩

theorem State.framerInv_seeking (hbuf : t.BufferInv) (hfs : t.framer.fs = .seeking) (hidx : t.framer.fIdx = 0) :
    t.FramerInv :=
  ⟨hbuf.canonical, hbuf.inside, fun _ => hidx, by simp [hfs], by simp [hfs], by simp [hfs], fun e => absurd hfs e⟩

theorem State.framerInv_envelope (hbuf : t.BufferInv) (hfs : t.framer.fs = .envelope)
    (hidx : t.framer.fIdx.toNat ≤ 3) (hwin : t.framer.winValid = false ∧ t.framer.winByte = sync1) : t.FramerInv :=
  ⟨hbuf.canonical, hbuf.inside, by simp [hfs], fun _ => hidx, by simp [hfs], by simp [hfs], fun _ => hwin⟩

theorem State.framerInv_payload (hbuf : t.BufferInv) (hfs : t.framer.fs = .payload)
    (hidx : t.framer.fIdx < t.framer.fLen) (hlen : t.framer.fLen.toNat ≤ t.par.maxPayload)
    (hwin : t.framer.winValid = false ∧ t.framer.winByte = sync1) : t.FramerInv :=
  ⟨hbuf.canonical, hbuf.inside, by simp [hfs], by simp [hfs], fun _ => ⟨hidx, hlen⟩, by simp [hfs], fun _ => hwin⟩

theorem State.framerInv_checksum (hbuf : t.BufferInv) (hfs : t.framer.fs = .checksum)
    (hidx : t.framer.fIdx.toNat ≤ 1) (hlen : t.framer.fLen.toNat ≤ t.par.maxPayload)
    (hwin : t.framer.winValid = false ∧ t.framer.winByte = sync1) : t.FramerInv :=
  ⟨hbuf.canonical, hbuf.inside, by simp [hfs], by simp [hfs], by simp [hfs], fun _ => ⟨hidx, hlen⟩, fun _ => hwin⟩

/-! ### The checksum's part, by the framer's state -/

theorem State.bytesSoFar_envelope (h : s.framer.fs = .envelope) : s.bytesSoFar =
    [s.framer.fClass, s.framer.fId, lowByte s.framer.fLen].take s.framer.fIdx.toNat := by
  simp only [State.bytesSoFar, h]

theorem State.bytesSoFar_payload (h : s.framer.fs = .payload) : s.bytesSoFar =
    frameBody s.framer.fClass s.framer.fId s.framer.fLen (s.payload s.framer.fIdx.toNat) := by
  simp only [State.bytesSoFar, h]

theorem State.bytesSoFar_checksum (h : s.framer.fs = .checksum) : s.bytesSoFar =
    frameBody s.framer.fClass s.framer.fId s.framer.fLen (s.payload s.framer.fLen.toNat) := by
  simp only [State.bytesSoFar, h]

/-- `ck_step` with a byte that has just arrived keeps the running checksum (40_checksum.md R112). -/
theorem State.ChecksumInv.running_concat {b : Byte} (h : s.ChecksumInv) (hfs : s.framer.fs ≠ .seeking)
    (hrun : (t.framer.runA, t.framer.runB) = ckStep (s.framer.runA, s.framer.runB) b)
    (hbytes : t.bytesSoFar = s.bytesSoFar ++ [b]) : (t.framer.runA, t.framer.runB) = compute t.bytesSoFar := by
  rw [hbytes, compute_concat, ← h.running hfs, hrun]

theorem State.checksumInv_seeking (hfs : t.framer.fs = .seeking) : t.ChecksumInv :=
  ⟨fun e => absurd hfs e, by simp [hfs], by simp [State.payloadArrived, hfs]⟩

theorem State.checksumInv_envelope (hfs : t.framer.fs = .envelope)
    (hrun : (t.framer.runA, t.framer.runB) = compute t.bytesSoFar)
    (hlow : t.framer.fIdx = 3 → highByte t.framer.fLen = 0) : t.ChecksumInv :=
  ⟨fun _ => hrun, fun _ => hlow, by simp [State.payloadArrived, hfs]⟩

theorem State.checksumInv_body (hfs : t.framer.fs ≠ .envelope)
    (hrun : (t.framer.runA, t.framer.runB) = compute t.bytesSoFar)
    (hwritten : ∀ k < t.payloadArrived, (t.framer.fPay.read? k).isSome = true) : t.ChecksumInv :=
  ⟨fun _ => hrun, fun e => absurd e hfs, hwritten⟩

/-! ### The framer's operations -/

theorem State.Inv.enterSeeking (h : s.Inv) : s.enterSeeking.Inv :=
  h.of_framer (framerInv_seeking ⟨h.framer.payCanonical, h.framer.payInside⟩ rfl rfl) (checksumInv_seeking rfl) rfl

theorem State.Inv.seek {b : Byte} (h : s.Inv) (hfs : s.framer.fs = .seeking) : (s.seek b).Inv := by
  unfold State.seek
  split
  · rename_i hsync
    obtain ⟨_, hbyte, _⟩ := hsync
    exact h.of_framer
      (framerInv_envelope ⟨h.framer.payCanonical, h.framer.payInside⟩ rfl (by simp) ⟨rfl, hbyte⟩)
      (checksumInv_envelope rfl rfl (by simp)) rfl
  · exact h.of_framer
      (framerInv_seeking ⟨h.framer.payCanonical, h.framer.payInside⟩ hfs (h.framer.seeking hfs))
      (checksumInv_seeking hfs) rfl

/-- A byte of the envelope that leaves the framer in ENVELOPE, with the index moving from `m` to `n`. -/
theorem State.Inv.envelopeByte {b : Byte} {m n : U16} (h : s.Inv) (hfs : s.framer.fs = .envelope)
    (hidx : s.framer.fIdx = m) (ht : t = { s with framer := t.framer }) (hpay : t.framer.fPay = s.framer.fPay)
    (htfs : t.framer.fs = .envelope) (htidx : t.framer.fIdx = n) (hn : n.toNat ≤ 3)
    (hwin : t.framer.winValid = s.framer.winValid ∧ t.framer.winByte = s.framer.winByte)
    (hrun : (t.framer.runA, t.framer.runB) = ckStep (s.framer.runA, s.framer.runB) b)
    (hbytes : [t.framer.fClass, t.framer.fId, lowByte t.framer.fLen].take n.toNat =
      [s.framer.fClass, s.framer.fId, lowByte s.framer.fLen].take m.toNat ++ [b])
    (hlow : n = 3 → highByte t.framer.fLen = 0) : t.Inv := by
  have hactive : s.framer.fs ≠ .seeking := by simp [hfs]
  have hpar : t.par = s.par := by rw [ht]
  have hbytes : t.bytesSoFar = s.bytesSoFar ++ [b] := by
    rw [bytesSoFar_envelope htfs, bytesSoFar_envelope hfs, htidx, hidx, hbytes]
  refine h.of_framer (framerInv_envelope ⟨?canonical, ?inside⟩ htfs (htidx ▸ hn) ?window)
    (checksumInv_envelope htfs (h.checksum.running_concat hactive hrun hbytes) (htidx ▸ hlow)) ht
  case canonical => rw [hpay]; exact h.framer.payCanonical
  case inside => rw [hpay, hpar]; exact h.framer.payInside
  case window => rw [hwin.1, hwin.2]; exact h.framer.window hactive

theorem State.Inv.classByte {b : Byte} (h : s.Inv) (hfs : s.framer.fs = .envelope) (hidx : s.framer.fIdx = 0) :
    (s.classByte b).Inv :=
  h.envelopeByte (n := 1) hfs hidx rfl rfl hfs rfl (by decide) ⟨rfl, rfl⟩ rfl rfl (by simp)

theorem State.Inv.idByte {b : Byte} (h : s.Inv) (hfs : s.framer.fs = .envelope) (hidx : s.framer.fIdx = 1) :
    (s.idByte b).Inv :=
  h.envelopeByte (n := 2) hfs hidx rfl rfl hfs rfl (by decide) ⟨rfl, rfl⟩ rfl rfl (by simp)

theorem State.Inv.lengthLow {b : Byte} (h : s.Inv) (hfs : s.framer.fs = .envelope) (hidx : s.framer.fIdx = 2) :
    (s.lengthLow b).Inv := by
  obtain ⟨hlow, hhigh⟩ := lowByte_zeroExtend b
  refine h.envelopeByte (n := 3) hfs hidx rfl rfl hfs rfl (by decide) ⟨rfl, rfl⟩ rfl ?bytes fun _ => hhigh
  exact congrArg (fun x => [s.framer.fClass, s.framer.fId, x]) hlow

/-- The length field once its high byte `b` has arrived (43_framer.md R184). -/
def State.fullLength (b : Byte) (s : State) : U16 := s.framer.fLen ||| (b.zeroExtend 16 <<< 8)

/-- The state whose length is then checked (R184). -/
def State.storeLength (b : Byte) (s : State) : State :=
  ({ s with framer.fLen := s.fullLength b } : State).ckByte b

theorem State.lengthHigh_eq (s : State) (b : Byte) :
    s.lengthHigh b = (s.storeLength b).checkLength (s.fullLength b) := rfl

/-- Once the length is known the body's four bytes have arrived, and the payload, if any, comes next (R184). -/
theorem State.Inv.lengthHigh {b : Byte} (h : s.Inv) (hfs : s.framer.fs = .envelope) (hidx : s.framer.fIdx = 3) :
    (s.lengthHigh b).Inv := by
  have hactive : s.framer.fs ≠ .seeking := by simp [hfs]
  have hbytes : frameBody s.framer.fClass s.framer.fId (s.fullLength b) [] = s.bytesSoFar ++ [b] := by
    obtain ⟨hlow, hhigh⟩ := lengthField_parts s.framer.fLen b (h.checksum.lengthLow hfs hidx)
    rw [bytesSoFar_envelope hfs, hidx, frameBody, State.fullLength, hlow, hhigh]
    rfl
  rw [lengthHigh_eq]
  rcases (s.storeLength b).checkLength_cases (s.fullLength b) with ⟨_, e⟩ | ⟨h0, hlen, e⟩ | ⟨h0, hlen, e⟩ <;> rw [e]
  · have seeking : (s.storeLength b).enterSeeking.Inv :=
      h.of_framer (framerInv_seeking ⟨h.framer.payCanonical, h.framer.payInside⟩ rfl rfl)
        (checksumInv_seeking rfl) rfl
    exact (seeking.setCntInboxOut { s.cnt with lenErr := s.cnt.lenErr + 1 } s.inbox s.out).raise .framingLength
  · refine h.of_framer
      (framerInv_checksum ⟨h.framer.payCanonical, h.framer.payInside⟩ rfl (Nat.zero_le 1) hlen
        (h.framer.window hactive))
      (checksumInv_body (by simp) (h.checksum.running_concat hactive rfl ?bytes) ?written) rfl
    case bytes =>
      rw [bytesSoFar_checksum rfl, ← hbytes]
      simp [storeLength, h0, State.payload]
    case written => simp [State.payloadArrived, storeLength, h0]
  · exact h.of_framer
      (framerInv_payload ⟨h.framer.payCanonical, h.framer.payInside⟩ rfl ((BitVec.pos_iff_ne_zero _).2 h0) hlen
        (h.framer.window hactive))
      (checksumInv_body (by simp) (h.checksum.running_concat hactive rfl hbytes) (by simp [State.payloadArrived])) rfl

/-- A payload byte as the framer takes it (43_framer.md R185), with the state and the index it goes to. -/
def State.storeByte (b : Byte) (fs : FramerState) (idx : U16) (s : State) : State :=
  { (({ s with framer.fPay := s.framer.fPay.write s.framer.fIdx.toNat b } : State).ckByte b) with
    framer.fs := fs, framer.fIdx := idx }

/-- After a payload byte the buffer is canonical and inside its bounds. -/
theorem State.FramerInv.buffer_storeByte {b : Byte} {fs : FramerState} {idx : U16} (h : s.FramerInv)
    (hin : s.framer.fIdx.toNat < s.par.maxPayload) : (s.storeByte b fs idx).BufferInv where
  canonical := Memory.wf_write h.payCanonical _ b
  inside c hc := by
    rcases Memory.mem_write hc with e | hc
    · rw [e]; exact hin
    · exact h.payInside c hc

/-- After a payload byte the frame in progress has written one byte more. -/
theorem State.ChecksumInv.written_storeByte {b : Byte} {fs : FramerState} {idx : U16} (h : s.ChecksumInv)
    (hfs : s.framer.fs = .payload) (k : Nat) (hk : k < s.framer.fIdx.toNat + 1) :
    ((s.storeByte b fs idx).framer.fPay.read? k).isSome = true := by
  have before : ∀ k < s.framer.fIdx.toNat, (s.framer.fPay.read? k).isSome = true := by
    simpa only [State.payloadArrived, hfs] using h.written
  change ((s.framer.fPay.write s.framer.fIdx.toNat b).read? k).isSome = true
  rw [Memory.read?_write]
  split
  · rfl
  · exact before k (by omega)

/-- After a payload byte the body that has arrived is one byte longer. -/
theorem State.body_storeByte {b : Byte} {fs : FramerState} {idx : U16} (hfs : s.framer.fs = .payload) :
    frameBody s.framer.fClass s.framer.fId s.framer.fLen
      ((s.storeByte b fs idx).payload (s.framer.fIdx.toNat + 1)) = s.bytesSoFar ++ [b] := by
  have hpay : (s.storeByte b fs idx).payload (s.framer.fIdx.toNat + 1) = s.payload s.framer.fIdx.toNat ++ [b] :=
    State.payload_write rfl rfl
  rw [hpay, bytesSoFar_payload hfs]
  rfl

/-- The last payload byte leads to CHECKSUM, every other one to the next index (43_framer.md R185). -/
theorem State.Inv.payloadByte {b : Byte} (h : s.Inv) (hfs : s.framer.fs = .payload)
    (hin : s.framer.fIdx.toNat < s.par.maxPayload) :
    (s.storeByte b (if s.framer.fIdx + 1 = s.framer.fLen then .checksum else .payload)
      (if s.framer.fIdx + 1 = s.framer.fLen then 0 else s.framer.fIdx + 1)).Inv := by
  have hactive : s.framer.fs ≠ .seeking := by simp [hfs]
  obtain ⟨hidx, hlen⟩ := h.framer.payload hfs
  have hnext : (s.framer.fIdx + 1).toNat = s.framer.fIdx.toNat + 1 := by bv_omega
  have hbuf := fun fs idx => h.framer.buffer_storeByte (b := b) (fs := fs) (idx := idx) hin
  by_cases hlast : s.framer.fIdx + 1 = s.framer.fLen
  · rw [if_pos hlast, if_pos hlast]
    have hcount : s.framer.fLen.toNat = s.framer.fIdx.toNat + 1 := hlast ▸ hnext
    refine h.of_framer (framerInv_checksum (hbuf _ _) rfl (Nat.zero_le 1) hlen (h.framer.window hactive))
      (checksumInv_body (by simp [storeByte]) (h.checksum.running_concat hactive rfl ?bytes) ?written) rfl
    case bytes =>
      rw [bytesSoFar_checksum rfl, ← body_storeByte hfs, ← hcount]
      rfl
    case written => exact fun k hk => h.checksum.written_storeByte hfs k (hcount ▸ hk)
  · rw [if_neg hlast, if_neg hlast]
    have hbelow : s.framer.fIdx + 1 < s.framer.fLen := by bv_omega
    refine h.of_framer
      (framerInv_payload (hbuf _ _) rfl hbelow hlen (h.framer.window hactive))
      (checksumInv_body (by simp [storeByte]) (h.checksum.running_concat hactive rfl ?bytes) ?written) rfl
    case bytes =>
      rw [bytesSoFar_payload rfl, ← body_storeByte hfs, ← hnext]
      rfl
    case written => exact fun k hk => h.checksum.written_storeByte hfs k (hnext ▸ hk)

theorem State.Inv.checksumFirst {b : Byte} (h : s.Inv) (hfs : s.framer.fs = .checksum) :
    (s.checksumFirst b).Inv := by
  have hactive : s.framer.fs ≠ .seeking := by simp [hfs]
  have hbytes : (s.checksumFirst b).bytesSoFar = s.bytesSoFar := by
    rw [bytesSoFar_checksum (s := s.checksumFirst b) hfs, bytesSoFar_checksum hfs]
    rfl
  have harrived : (s.checksumFirst b).payloadArrived = s.payloadArrived := by
    simp only [State.payloadArrived, State.checksumFirst, hfs]
  refine h.of_framer
    (framerInv_checksum ⟨h.framer.payCanonical, h.framer.payInside⟩ hfs (by simp [State.checksumFirst])
      (h.framer.checksum hfs).2 (h.framer.window hactive))
    (checksumInv_body (by simp [State.checksumFirst, hfs]) ?running ?written) rfl
  case running => rw [hbytes]; exact h.checksum.running hactive
  case written => rw [harrived]; exact h.checksum.written

/-! ### The hand-off -/

/-- The frame recorded is one that validates, with the message its payload decodes to (10_state.md R48). -/
theorem State.Inv.recordFrame (h : s.Inv) {f : RawFrame} (hvalid : validate f = true)
    (hlen : f.payload.length = f.length.toNat) :
    (s.recordFrame f (decodePayload s.par f.cls f.id f.payload)).Inv where
  par := h.par
  framer := h.framer.congr rfl rfl
  checksum := h.checksum.congr rfl rfl
  sequencer := h.sequencer.congr
  stream := h.stream.congr
  record := ⟨rfl, by rintro _ ⟨⟩; exact ⟨hvalid, hlen, rfl⟩⟩
  sticky := h.sticky

theorem State.Inv.acceptFrame (h : s.Inv) {f : RawFrame} (hvalid : validate f = true)
    (hlen : f.payload.length = f.length.toNat) :
    (s.acceptFrame f (decodePayload s.par f.cls f.id f.payload)).Inv :=
  ((((h.recordFrame hvalid hlen).emit _).emit _).route _).enterSeeking

theorem State.Inv.rejectFrame (h : s.Inv) (b : Byte) : (s.rejectFrame b).Inv :=
  (((h.setCntInboxOut { s.cnt with ckErr := s.cnt.ckErr + 1 } s.inbox s.out).raise .checksum).emit _).enterSeeking

/-- The frame whose two checksum bytes are the running ones validates: the bytes that arrived are its body. -/
theorem State.Inv.validate_frame (h : s.Inv) (hfs : s.framer.fs = .checksum) {b : Byte}
    (ha : s.framer.fCka = s.framer.runA) (hb : b = s.framer.runB) :
    validate { cls := s.framer.fClass, id := s.framer.fId, length := s.framer.fLen,
               payload := s.payload s.framer.fLen.toNat, checksumA := s.framer.fCka, checksumB := b } = true := by
  have running := h.checksum.running (by simp [hfs])
  rw [bytesSoFar_checksum hfs] at running
  rw [validate, decide_eq_true_iff, ha, hb]
  exact running.symm

/-- The framer keeps the invariant on every byte, whatever its state. -/
theorem State.Inv.framerByte {b : Byte} (h : s.Inv) (ht : s.framerByte b = .next t) : t.Inv := by
  rcases s.framerByte_cases ht with ⟨hfs, rfl⟩ | ⟨hfs, hidx, rfl⟩ | ⟨hfs, hidx, rfl⟩ | ⟨hfs, hidx, rfl⟩ |
    ⟨hfs, hidx, rfl⟩ | ⟨hfs, hin, rfl⟩ | ⟨hfs, _, rfl⟩ | ⟨hfs, _, _, ha, hb, rfl⟩ | ⟨_, _, _, _, rfl⟩
  · exact h.seek hfs
  · exact h.classByte hfs hidx
  · exact h.idByte hfs hidx
  · exact h.lengthLow hfs hidx
  · exact h.lengthHigh hfs hidx
  · exact h.payloadByte hfs hin
  · exact h.checksumFirst hfs
  · exact h.acceptFrame (h.validate_frame hfs ha hb) (s.payload_length _)
  · exact h.rejectFrame b

/-! ### The events -/

theorem State.Inv.transportFailed (h : s.Inv) : s.transportFailed.Inv := by
  have counted := h.setCntInboxOut { s.cnt with rxErr := s.cnt.rxErr + 1 } s.inbox s.out
  unfold State.transportFailed State.abortFrame
  split
  · exact (counted.enterSeeking.raise _).emit _
  · exact ((((counted.setCntInboxOut { s.cnt with rxErr := s.cnt.rxErr + 1, abort := s.cnt.abort + 1 }
      s.inbox s.out).raise .framingAbort).enterSeeking).raise _).emit _

theorem State.Inv.rxError (h : s.Inv) (ht : execRxError s = .next t) : t.Inv := by
  rcases execRxError_cases ht with ⟨hm, rfl⟩ | ⟨_, rfl⟩
  · exact h.transportFailed.stopStream (s.transportFailed_mode.trans hm) s.transportFailed.stream.rxIdle _
  · exact h.transportFailed

theorem State.Inv.tick (h : s.Inv) (ht : execTick s = .next t) : t.Inv := by
  rcases execTick_cases ht with ⟨_, rfl⟩ | ⟨hm, hw, rfl⟩ | ⟨hm, _, rfl⟩ | ⟨_, hw, rfl⟩ | ⟨hm, _, rfl⟩
  · exact h
  · exact h.of_control
      (sequencerInv_await (h.await hm) hm h.sequencer.retries hw (h.failStep_none hm) h.sequencer.noPolls)
      h.stream.congr h.sticky
  · exact h.stepFailed hm _ _
  · exact h.setRxIdle hw
  · exact h.stopStream hm _ _

theorem State.Inv.cancel (h : s.Inv) (ht : execCancel s = .next t) : t.Inv := by
  rcases execCancel_cases ht with ⟨_, rfl⟩ | ⟨hm, rfl⟩ | ⟨hm, rfl⟩
  · exact h
  · exact h.cancelSequence hm
  · exact h.stopStream hm s.stream.rxIdle _

/-- The reset registers meet the invariant under any legal parameters (70_reset_and_hazards.md R300). -/
theorem State.inv_resetRegisters {p : Params} (hp : p.wf = true) (d : Nat) (i : List U16) (o : List OutEvent) :
    ({ State.reset with par := p, draws := d, inbox := i, out := o } : State).Inv where
  par := hp
  framer := framerInv_seeking ⟨.nil, nofun⟩ rfl rfl
  checksum := checksumInv_seeking rfl
  sequencer := ⟨iff_of_false nofun nofun, Nat.zero_le _, nofun, nofun, fun _ => rfl, fun _ => ⟨nofun, nofun⟩⟩
  stream := ⟨nofun, nofun, nofun, fun e => e.elim nofun nofun, fun _ => rfl⟩
  record := ⟨rfl, nofun⟩
  sticky := BitVec.zero_and

/-- Every event word keeps the invariant. -/
theorem State.Inv.exec_word {w : U16} (h : s.Inv) (ht : exec (decodeWord w) s = .next t) : t.Inv := by
  rcases exec_word_cases ht with ⟨b, _, ht⟩ | ⟨_, _, _, rfl⟩ | ⟨_, ht⟩ | ⟨_, ht⟩ | ⟨p, v, _, _, rfl⟩ |
    ⟨_, hm, hstate, rfl⟩ | ⟨_, ht⟩ | ⟨_, ht⟩
  · exact h.noteByte.framerByte ht -- RX_BYTE
  · exact h.refuse _ -- a refused word
  · exact h.rxError ht -- RX_ERROR
  · exact h.tick ht -- TICK
  · exact h.startSequence p v -- START_SEQ
  · exact h.startStream hm hstate -- START_STREAM
  · exact h.cancel ht -- CANCEL
  · cases ht
    exact inv_resetRegisters h.par _ _ _ -- RESET

/-- Settles O57: a step waits, or runs the oldest word, which keeps the invariant (`State.Inv.exec_word`). -/
theorem invKeptByStep : Obligations.InvKeptByStep := by
  unfold Obligations.InvKeptByStep
  intro s t h ht
  cases hbox : s.inbox with
  | nil =>
    rw [step_nil hbox] at ht
    cases ht
    exact h
  | cons w rest =>
    rw [step_cons hbox] at ht
    exact (h.setCntInboxOut s.cnt rest s.out).exec_word ht

end Sys2Proof.Machine
end

section
/-! PROOF. Runs and the inbox (family 20_memory.md). No instruction looks at the words delivered behind its own, so each
operation commutes with replacing them (70_reset_and_hazards.md R305; entry 2), and a run over the inbox is the run over
its words. -/

namespace Sys2Proof.Machine

/-! ### Replacing the words delivered -/

/-- The state with other words delivered and not yet taken (entry 2). -/
def State.setInbox (x : List U16) (s : State) : State := { s with inbox := x }

/-- The outcome of a step with other words delivered: a next state takes them, a stop has none. -/
def replaceInbox (x : List U16) : Host.Outcome State Fault Refusal → Host.Outcome State Fault Refusal
  | .next t => .next (t.setInbox x)
  | .fault r => .fault r
  | .refused r => .refused r

variable (x : List U16) (s : State)

@[simp] theorem State.setInbox_framer : (s.setInbox x).framer = s.framer := rfl
@[simp] theorem State.setInbox_mode : (s.setInbox x).mode = s.mode := rfl
@[simp] theorem State.setInbox_seq : (s.setInbox x).seq = s.seq := rfl

/-- Two branches on one condition agree up to `f` when their arms do. -/
theorem ite_eq_apply_ite {α β : Type} {f : α → β} {c : Prop} [Decidable c] {a b : α} {a' b' : β}
    (ha : a' = f a) (hb : b' = f b) : (if c then a' else b') = f (if c then a else b) := by
  rw [ha, hb, apply_ite f]

/-! ### The sequencer -/

theorem State.checkRate_setInbox : (s.setInbox x).checkRate = s.checkRate.setInbox x := by
  unfold State.checkRate
  rw [State.setInbox_seq]
  cases s.seq.rbRate with
  | none => rfl
  | some c => exact ite_eq_apply_ite rfl rfl

theorem State.checkMsg_setInbox : (s.setInbox x).checkMsg = s.checkMsg.setInbox x := by
  unfold State.checkMsg
  rw [State.setInbox_seq]
  cases s.seq.rbMsg with
  | none => rfl
  | some m => exact ite_eq_apply_ite rfl rfl

theorem State.checkReadback_setInbox : (s.setInbox x).checkReadback = s.checkReadback.setInbox x := by
  unfold State.checkReadback
  rw [State.setInbox_seq]
  cases s.seq.step with
  | pollRate => exact s.checkRate_setInbox x
  | pollFixConfig => exact s.checkMsg_setInbox x
  | setProtocolFilter | setRate | enableFixOutput => rfl

theorem State.advance_setInbox : (s.setInbox x).advance = s.advance.setInbox x := by
  unfold State.advance
  rw [State.setInbox_seq]
  cases nextStep s.seq.verify s.seq.step with
  | none => rfl
  | some n => rfl

theorem State.stepOk_setInbox : (s.setInbox x).stepOk = s.stepOk.setInbox x := by
  unfold State.stepOk
  rw [State.checkReadback_setInbox]
  exact State.advance_setInbox x (s.checkReadback.emit _)

theorem State.stepFailed_setInbox (r : FailReason) : (s.setInbox x).stepFailed r = (s.stepFailed r).setInbox x := by
  unfold State.stepFailed
  exact ite_eq_apply_ite rfl rfl

theorem State.seqOnMsg_setInbox (m : DecodedMessage) : (s.setInbox x).seqOnMsg m = (s.seqOnMsg m).setInbox x := by
  unfold State.seqOnMsg
  rw [State.setInbox_seq]
  cases m with
  | ack a => exact ite_eq_apply_ite (s.stepOk_setInbox x) rfl
  | nack a => exact ite_eq_apply_ite (s.stepFailed_setInbox x _) rfl
  | rateConfig c => exact ite_eq_apply_ite rfl rfl
  | msgEnableConfig e => exact ite_eq_apply_ite rfl rfl
  | fixRecord | unrecognized => rfl

theorem State.seqTick_setInbox : (s.setInbox x).seqTick = s.seqTick.setInbox x := by
  unfold State.seqTick
  exact ite_eq_apply_ite (State.stepFailed_setInbox x { s with seq.wait := s.seq.wait + 1 } _) rfl

/-! ### The stream -/

theorem State.streamTick_setInbox : (s.setInbox x).streamTick = s.streamTick.setInbox x := by
  unfold State.streamTick
  exact ite_eq_apply_ite rfl rfl

theorem State.route_setInbox (m : DecodedMessage) : (s.setInbox x).route m = (s.route m).setInbox x := by
  unfold State.route
  rw [State.setInbox_mode]
  cases s.mode with
  | startup => exact s.seqOnMsg_setInbox x m
  | stream => cases m <;> rfl
  | idle | stopped => rfl

/-! ### The framer -/

theorem State.noteByte_setInbox : (s.setInbox x).noteByte = s.noteByte.setInbox x := by
  unfold State.noteByte
  exact ite_eq_apply_ite rfl rfl

theorem State.acceptFrame_setInbox (f : RawFrame) (m : DecodedMessage) :
    (s.setInbox x).acceptFrame f m = (s.acceptFrame f m).setInbox x :=
  congrArg State.enterSeeking (State.route_setInbox x (((s.recordFrame f m).emit (.frameOk f)).emit (.msg m)) m)

theorem State.seek_setInbox (b : Byte) : (s.setInbox x).seek b = (s.seek b).setInbox x := by
  unfold State.seek
  exact ite_eq_apply_ite rfl rfl

theorem State.checkLength_setInbox (len : U16) : (s.setInbox x).checkLength len = (s.checkLength len).setInbox x := by
  unfold State.checkLength
  exact ite_eq_apply_ite rfl (ite_eq_apply_ite rfl rfl)

theorem State.lengthHigh_setInbox (b : Byte) : (s.setInbox x).lengthHigh b = (s.lengthHigh b).setInbox x :=
  State.checkLength_setInbox x (State.ckByte b { s with framer.fLen := s.framer.fLen ||| (b.zeroExtend 16 <<< 8) }) _

theorem State.envelope_setInbox (b : Byte) : (s.setInbox x).envelope b = replaceInbox x (s.envelope b) := by
  unfold State.envelope
  rw [State.lengthHigh_setInbox, State.setInbox_framer]
  split <;> rfl

theorem State.payloadByte_setInbox (b : Byte) :
    (s.setInbox x).payloadByte b = replaceInbox x (s.payloadByte b) := by
  unfold State.payloadByte
  exact ite_eq_apply_ite (ite_eq_apply_ite rfl rfl) rfl

theorem State.checksumSecond_setInbox (b : Byte) :
    (s.setInbox x).checksumSecond b = replaceInbox x (s.checksumSecond b) := by
  unfold State.checksumSecond
  exact ite_eq_apply_ite (ite_eq_apply_ite (congrArg _ (s.acceptFrame_setInbox x _ _)) rfl) rfl

theorem State.checksumByte_setInbox (b : Byte) :
    (s.setInbox x).checksumByte b = replaceInbox x (s.checksumByte b) := by
  unfold State.checksumByte
  rw [State.checksumSecond_setInbox, State.setInbox_framer]
  split <;> rfl

theorem State.framerByte_setInbox (b : Byte) : (s.setInbox x).framerByte b = replaceInbox x (s.framerByte b) := by
  unfold State.framerByte
  rw [State.setInbox_framer]
  cases s.framer.fs with
  | seeking => exact congrArg _ (s.seek_setInbox x b)
  | envelope => exact s.envelope_setInbox x b
  | payload => exact s.payloadByte_setInbox x b
  | checksum => exact s.checksumByte_setInbox x b

theorem State.abortFrame_setInbox : (s.setInbox x).abortFrame = s.abortFrame.setInbox x := by
  unfold State.abortFrame
  exact ite_eq_apply_ite rfl rfl

theorem State.transportFailed_setInbox : (s.setInbox x).transportFailed = s.transportFailed.setInbox x := by
  unfold State.transportFailed
  exact congrArg (fun t => (State.raise .transportError (State.enterSeeking t)).emit _)
    (State.abortFrame_setInbox x { s with cnt.rxErr := s.cnt.rxErr + 1 })

theorem State.receiveFrame_setInbox (c i : Byte) (p : List Byte) :
    (s.setInbox x).receiveFrame c i p = replaceInbox x (s.receiveFrame c i p) := by
  unfold State.receiveFrame
  rw [State.noteByte_setInbox]
  exact ite_eq_apply_ite
    (congrArg _ (State.acceptFrame_setInbox x (s.noteByte.loadFrame c i p (rawFrame c i p).checksumA) _ _)) rfl

/-! ### Every instruction -/

theorem execRxError_setInbox : execRxError (s.setInbox x) = replaceInbox x (execRxError s) := by
  unfold execRxError
  rw [State.transportFailed_setInbox]
  exact ite_eq_apply_ite rfl rfl

theorem execTick_setInbox : execTick (s.setInbox x) = replaceInbox x (execTick s) := by
  unfold execTick
  rw [State.seqTick_setInbox, State.streamTick_setInbox, State.setInbox_mode]
  cases s.mode <;> rfl

theorem execCancel_setInbox : execCancel (s.setInbox x) = replaceInbox x (execCancel s) := by
  unfold execCancel
  rw [State.setInbox_mode]
  cases s.mode <;> rfl

theorem execStartSeq_setInbox (p : Preset) (v : Bool) :
    execStartSeq p v (s.setInbox x) = replaceInbox x (execStartSeq p v s) := by
  unfold execStartSeq
  exact ite_eq_apply_ite rfl rfl

theorem execStartStream_setInbox : execStartStream (s.setInbox x) = replaceInbox x (execStartStream s) := by
  unfold execStartStream
  exact ite_eq_apply_ite rfl rfl

theorem execRxOverlongFrame_setInbox (c i : Byte) (len : U16) :
    execRxOverlongFrame c i len (s.setInbox x) = replaceInbox x (execRxOverlongFrame c i len s) := by
  unfold execRxOverlongFrame
  rw [State.noteByte_setInbox]
  exact congrArg _ (State.lengthHigh_setInbox x (s.noteByte.loadEnvelope c i (lowByte len)) _)

/-- An instruction does the same whatever words are delivered behind it, and leaves them alone
(70_reset_and_hazards.md R305; entry 2). -/
theorem exec_setInbox (i : Instr) : exec i (s.setInbox x) = replaceInbox x (exec i s) := by
  cases i with
  | rxByte b => exact (congrArg (State.framerByte b) (s.noteByte_setInbox x)).trans (s.noteByte.framerByte_setInbox x b)
  | rxError => exact execRxError_setInbox x s
  | tick => exact execTick_setInbox x s
  | startSeq p v => exact execStartSeq_setInbox x s p v
  | startStream => exact execStartStream_setInbox x s
  | cancel => exact execCancel_setInbox x s
  | rxFixRecord | rxRateConfig | rxMsgEnableConfig | rxAck | rxNack | rxUnrecognized =>
    exact s.receiveFrame_setInbox x _ _ _
  | rxOverlongFrame c id len => exact execRxOverlongFrame_setInbox x s c id len
  | _ => rfl -- RESET, a refused word or a send: one update of the state, without a branch

/-! ### The first step of a run -/

section

variable {M : Host.Core} {s t : M.State}

theorem run_succ_of_next (h : M.step s = .next t) (k : Nat) : M.run (k + 1) s = M.run k t := by
  rw [Host.Core.run, h]

theorem run_succ_of_fault {r : M.Fault} (h : M.step s = .fault r) (k : Nat) : M.run (k + 1) s = .fault r := by
  rw [Host.Core.run, h]

theorem run_succ_of_refused {r : M.Refusal} (h : M.step s = .refused r) (k : Nat) :
    M.run (k + 1) s = .refused r := by
  rw [Host.Core.run, h]

end

/-! ### The statement -/

/-- Settles O2, by induction on the words: the step takes the first, and its instruction does the same with the words
behind it delivered or not (`exec_setInbox`). That the words wait in `inbox` is the model's choice (entry 2). -/
theorem runTakesWordsInOrder : Obligations.RunTakesWordsInOrder := by
  unfold Obligations.RunTakesWordsInOrder
  intro ws more s hbox
  change _ = runEvents ws (s.setInbox more)
  induction ws generalizing s with
  | nil =>
    subst hbox
    rfl
  | cons w ws ih =>
    have hstep : step s = replaceInbox (ws ++ more) (exec (decodeWord w) s) :=
      (step_cons hbox).trans (exec_setInbox (ws ++ more) s _)
    rw [runEvents, exec_setInbox]
    cases hexec : exec (decodeWord w) s with
    | next t =>
      rw [hexec] at hstep
      exact (run_succ_of_next hstep ws.length).trans (ih (t.setInbox (ws ++ more)) rfl)
    | fault r =>
      rw [hexec] at hstep
      exact run_succ_of_fault hstep ws.length
    | refused r =>
      rw [hexec] at hstep
      exact run_succ_of_refused hstep ws.length

end Sys2Proof.Machine
end

section
/-! PROOF. What goes out and what is published (family 20_memory.md): the command templates (R75) and the fix record
(R66). -/

namespace Sys2Proof.Machine

/-! ### Sending a command -/

/-- An outbound row of the table sends its command (44_sequencer.md R212; entry 1). -/
theorem exec_toInstr (c : Command) (s : State) : exec c.toInstr s = .next (s.transmit c) := by
  cases c <;> rfl

/-- A command that is no poll leaves both read-backs alone (44_sequencer.md R212). -/
theorem exec_toInstr_of_not_poll {c : Command} {s : State} {bytes : List Byte} (hrate : c ≠ .pollRate)
    (hfix : c ≠ .pollFixConfig) (hframe : commandFrame s.par c = bytes) :
    exec c.toInstr s = .next { s with seq.wait := 0, out := s.out ++ [.txFrame bytes] } := by
  rw [exec_toInstr, State.transmit, if_neg hrate, if_neg hfix, hframe]
  rfl

/-! ### The bytes of each command (41_codec_encode.md R121 to R126) -/

theorem commandFrame_setRate4x2 (par : Params) : commandFrame par .setRate4x2 =
    [0xB5, 0x62, 0x06, 0x08, 0x06, 0x00, 0xFA, 0x00, 0x02, 0x00, 0x00, 0x00, 0x10, 0x98] := by
  change frame 0x06 0x08 [0xFA, 0x00, 0x02, 0x00, 0x00, 0x00] = _
  decide

theorem commandFrame_setRate2x1 (par : Params) : commandFrame par .setRate2x1 =
    [0xB5, 0x62, 0x06, 0x08, 0x06, 0x00, 0xF4, 0x01, 0x02, 0x00, 0x00, 0x00, 0x0B, 0x79] := by
  change frame 0x06 0x08 [0xF4, 0x01, 0x02, 0x00, 0x00, 0x00] = _
  decide

theorem commandFrame_enableFixOutput (par : Params) : commandFrame par .enableFixOutput =
    [0xB5, 0x62, 0x06, 0x01, 0x03, 0x00, 0x01, 0x07, 0x01, 0x13, 0x51] := by
  change frame 0x06 0x01 [0x01, 0x07, 0x01] = _
  decide

theorem commandFrame_pollRate (par : Params) : commandFrame par .pollRate =
    [0xB5, 0x62, 0x06, 0x08, 0x00, 0x00, 0x0E, 0x30] := by
  change frame 0x06 0x08 [] = _
  decide

theorem commandFrame_pollFixConfig (par : Params) : commandFrame par .pollFixConfig =
    [0xB5, 0x62, 0x06, 0x01, 0x02, 0x00, 0x01, 0x07, 0x11, 0x3A] := by
  change frame 0x06 0x01 [0x01, 0x07] = _
  decide

/-- Settles O14: each row sends its command (`exec_toInstr`), whose bytes are its template's (R75), and only a poll
clears a read-back. That the row's meaning is this send is the model's reading (entry 1). -/
theorem sendsAreCommands : Obligations.SendsAreCommands := by
  unfold Obligations.SendsAreCommands
  intro s
  refine ⟨?filter, ?rate4x2, ?rate2x1, ?enable, ?pollRate, ?pollFix⟩
  case filter => exact exec_toInstr_of_not_poll (c := .setProtocolFilter) nofun nofun rfl
  case rate4x2 => exact exec_toInstr_of_not_poll (c := .setRate4x2) nofun nofun (commandFrame_setRate4x2 s.par)
  case rate2x1 => exact exec_toInstr_of_not_poll (c := .setRate2x1) nofun nofun (commandFrame_setRate2x1 s.par)
  case enable =>
    exact exec_toInstr_of_not_poll (c := .enableFixOutput) nofun nofun (commandFrame_enableFixOutput s.par)
  case pollRate =>
    refine (exec_toInstr .pollRate s).trans ?_
    rw [State.transmit, commandFrame_pollRate]
    rfl
  case pollFix =>
    refine (exec_toInstr .pollFixConfig s).trans ?_
    rw [State.transmit, commandFrame_pollFixConfig]
    rfl

/-! ### A whole valid frame -/

/-- The bytes the checksum of a payload's frame covers (30_encoding.md R83, R89). -/
theorem frameBody_payloadLength (c i : Byte) (p : List Byte) : frameBody c i (payloadLength p) p =
    c :: i :: BitVec.ofNat 8 (p.length % 256) :: BitVec.ofNat 8 (p.length / 256) :: p := by
  rw [frameBody, lowByte_payloadLength, highByte_payloadLength]

/-- An Unrecognized message names the pair of its frame (42_codec_decode.md R165). -/
theorem decodePayload_unrecognized {par : Params} {c i c' i' : Byte} {p : List Byte}
    (h : decodePayload par c i p = .unrecognized c' i') : c' = c ∧ i' = i := by
  unfold decodePayload at h
  dsimp only at h
  split_ifs at h
  cases h
  exact ⟨rfl, rfl⟩

/-- Recording a frame counts it as unrecognized exactly when its message is (43_framer.md R187). -/
theorem State.recordFrame_unrec (s : State) (f : RawFrame) {par : Params} {c i : Byte} {p : List Byte}
    {m : DecodedMessage} (hm : decodePayload par c i p = m) :
    (s.recordFrame f m).cnt.unrec = if m = .unrecognized c i then s.cnt.unrec + 1 else s.cnt.unrec := by
  cases m with
  | unrecognized c' i' =>
    obtain ⟨rfl, rfl⟩ := decodePayload_unrecognized hm
    rw [if_pos rfl]
    rfl
  | _ => rfl

/-- Whatever the mode does with the message, a whole valid frame leaves the framer and the records as `State.Received`
says (43_framer.md R181 to R188). -/
theorem State.received_acceptFrame (s : State) (c i : Byte) (p : List Byte) {m : DecodedMessage}
    (hm : decodePayload s.par c i p = m) :
    s.Received ((s.noteByte.loadFrame c i p (rawFrame c i p).checksumA).acceptFrame (rawFrame c i p) m) c i p m where
  fs := by rw [State.acceptFrame_framer]
  fIdx := by rw [State.acceptFrame_framer]
  winValid := by rw [State.acceptFrame_framer]
  winByte := by rw [State.acceptFrame_framer]; rfl
  fClass := by rw [State.acceptFrame_framer]; rfl
  fId := by rw [State.acceptFrame_framer]; rfl
  fLen := by rw [State.acceptFrame_framer]; rfl
  fPay k := by simp [State.loadFrame, Memory.read?_writeList]
  run := by rw [State.acceptFrame_framer, ← frameBody_payloadLength]; rfl
  fCka := by rw [State.acceptFrame_framer]; rfl
  lastFrame := by rw [State.acceptFrame_lastFrame, State.acceptFrame_framer]; rfl
  lastMsg := State.acceptFrame_lastMsg _ _ _
  framesOk := by rw [State.acceptFrame_cnt, ← s.noteByte_cnt]; rfl
  unrec := by rw [State.acceptFrame_cnt, State.recordFrame_unrec _ _ hm, State.loadFrame_cnt, State.noteByte_cnt]
  otherCounters := by
    rw [State.acceptFrame_cnt, ← s.noteByte_cnt]
    exact ⟨rfl, rfl, rfl, rfl, rfl⟩
  ours := by simp

/-! ### The publish -/

/-- In STREAM a fix record is published (45_stream.md R250, R251). -/
theorem State.route_fixRecord {s : State} (h : s.mode = .stream) (r : FixRecord) :
    s.route (.fixRecord r) = s.publish r := by
  rw [State.route, h]

/-- In STREAM the hand-off of a fix record publishes it behind the frame's record and report (43_framer.md R187). -/
theorem State.acceptFrame_fixRecord {s : State} (h : s.mode = .stream) (f : RawFrame) (r : FixRecord) :
    s.acceptFrame f (.fixRecord r) =
      ((((s.recordFrame f (.fixRecord r)).emit (.frameOk f)).emit (.msg (.fixRecord r))).publish r).enterSeeking := by
  rw [State.acceptFrame, State.route_fixRecord]
  exact h

/-- Settles O35: the message is received as a whole frame (`State.received_acceptFrame`), and its hand-off publishes the
record (`State.acceptFrame_fixRecord`). That it is an instruction of its own, whatever the framer was doing, is the
model's reading (entries 1, 18 and 22). -/
theorem streamPublishes : Obligations.StreamPublishes := by
  unfold Obligations.StreamPublishes
  intro s p hmin hmax hmode
  have hwf : (Instr.rxFixRecord p).wellFormed s.par = true := by simp [Instr.wellFormed, hmin, hmax]
  obtain ⟨_, hdecode, hexec⟩ := exec_inbound rfl hwf
  rw [State.receiveFrame_eq hmax, hdecode] at hexec
  refine ⟨_, hexec, s.received_acceptFrame _ _ p hdecode, ?mode, ?seq, ?stream, ?errSticky, _, rfl, ?out⟩
  all_goals rw [State.acceptFrame_fixRecord (by simpa using hmode)]
  case mode => simp
  case seq => simp
  case stream => simp [hmode]
  case errSticky => simp
  case out => simp

end Sys2Proof.Machine
end

section
/-! PROOF. The input event word (family 30_encoding.md, R95, R96): the decoder's equation for each operation, the case
split over words that the encoder's table gives, and the words that are refused. -/

namespace Sys2Proof

open Machine

/-! ### A word and its parts -/

@[simp] theorem eventOp_eventWord (op : BitVec 4) (d : BitVec 12) : eventOp (eventWord op d) = op :=
  BitVec.extractLsb'_append_eq_left

@[simp] theorem eventData_eventWord (op : BitVec 4) (d : BitVec 12) : eventData (eventWord op d) = d :=
  BitVec.extractLsb'_append_eq_right

/-- A word is its operation and its data (R95). -/
theorem eventWord_eventOp_eventData (w : U16) : eventWord (eventOp w) (eventData w) = w :=
  BitVec.extractLsb'_append_extractLsb' (w := 4) (len := 12)

/-- Data whose bits from 8 up are 0 is its low byte (R95). -/
theorem zero_append_lowByte {d : BitVec 12} (h : d.extractLsb' 8 4 = 0) :
    (0 : BitVec 4) ++ d.extractLsb' 0 8 = d := by
  rw [← h]
  exact BitVec.extractLsb'_append_extractLsb' (w := 4) (len := 8)

/-! ### The data of START_SEQ -/

@[simp] theorem presetOfBit_presetBit (p : Preset) : presetOfBit (presetBit p) = p := by
  cases p <;> rfl

@[simp] theorem presetBit_presetOfBit (b : Bool) : presetBit (presetOfBit b) = b := by
  cases b <;> rfl

/-- The reserved bits of START_SEQ's data are 0, and its two bits are the preset and the verify flag (R95). -/
theorem startSeqData_bits (p : Preset) (v : Bool) :
    (startSeqData p v).extractLsb' 2 10 = 0 ∧ (startSeqData p v).getLsbD 0 = presetBit p ∧
      (startSeqData p v).getLsbD 1 = v := by
  cases p <;> cases v <;> decide

/-- One bit of a vector is the vector of that bit. -/
theorem ofBool_getLsbD {n : Nat} (x : BitVec n) (k : Nat) : BitVec.ofBool (x.getLsbD k) = x.extractLsb' k 1 := by
  apply BitVec.eq_of_getLsbD_eq
  intro j hj
  obtain rfl : j = 0 := by omega
  simp

/-- Data whose bits from 2 up are 0 is that of a START_SEQ (R95). -/
theorem startSeqData_of_bits {d : BitVec 12} (h : d.extractLsb' 2 10 = 0) :
    startSeqData (presetOfBit (d.getLsbD 0)) (d.getLsbD 1) = d := by
  rw [startSeqData, presetBit_presetOfBit, ← h, ofBool_getLsbD, ofBool_getLsbD]
  calc d.extractLsb' 2 10 ++ d.extractLsb' 1 1 ++ d.extractLsb' 0 1
    _ = d.extractLsb' 1 11 ++ d.extractLsb' 0 1 :=
      congrArg (· ++ d.extractLsb' 0 1) (BitVec.extractLsb'_append_extractLsb'_eq_extractLsb' (x := d) rfl)
    _ = d := BitVec.extractLsb'_append_extractLsb' (w := 11) (len := 1)

/-! ### The decoder, by the operation -/

theorem decodeWord_op0 (d : BitVec 12) : decodeWord (eventWord 0x0 d) = .illegalOp0 d := by
  rw [decodeWord, eventOp_eventWord, eventData_eventWord]
  rfl

theorem decodeWord_op1 (d : BitVec 12) : decodeWord (eventWord 0x1 d) =
    if d.extractLsb' 8 4 = 0 then .rxByte (d.extractLsb' 0 8) else .illegalRxByte d := by
  rw [decodeWord, eventOp_eventWord, eventData_eventWord]
  rfl

theorem decodeWord_op2 (d : BitVec 12) : decodeWord (eventWord 0x2 d) =
    if d = 0 then .rxError else .illegalRxError d := by
  rw [decodeWord, eventOp_eventWord, eventData_eventWord]
  rfl

theorem decodeWord_op3 (d : BitVec 12) : decodeWord (eventWord 0x3 d) =
    if d = 0 then .tick else .illegalTick d := by
  rw [decodeWord, eventOp_eventWord, eventData_eventWord]
  rfl

theorem decodeWord_op4 (d : BitVec 12) : decodeWord (eventWord 0x4 d) =
    if d.extractLsb' 2 10 = 0 then .startSeq (presetOfBit (d.getLsbD 0)) (d.getLsbD 1) else .illegalStartSeq d := by
  rw [decodeWord, eventOp_eventWord, eventData_eventWord]
  rfl

theorem decodeWord_op5 (d : BitVec 12) : decodeWord (eventWord 0x5 d) =
    if d = 0 then .startStream else .illegalStartStream d := by
  rw [decodeWord, eventOp_eventWord, eventData_eventWord]
  rfl

theorem decodeWord_op6 (d : BitVec 12) : decodeWord (eventWord 0x6 d) =
    if d = 0 then .cancel else .illegalCancel d := by
  rw [decodeWord, eventOp_eventWord, eventData_eventWord]
  rfl

theorem decodeWord_op7 (d : BitVec 12) : decodeWord (eventWord 0x7 d) =
    if d = 0 then .reset else .illegalReset d := by
  rw [decodeWord, eventOp_eventWord, eventData_eventWord]
  rfl

/-- A word with bit 15 set has one of the operations 0x8 to 0xF (R96). -/
theorem eight_le_eventOp_high (low : BitVec 15) : 8 ≤ (eventOp ((1 : BitVec 1) ++ low)).toNat := by
  have hword : (((1 : BitVec 1) ++ low : BitVec (1 + 15))).toNat = 2 ^ 15 + low.toNat := by
    rw [BitVec.toNat_append, ← Nat.shiftLeft_add_eq_or_of_lt low.isLt]
    rfl
  have hlow := low.isLt
  rw [eventOp, BitVec.extractLsb'_toNat, hword, Nat.shiftRight_eq_div_pow]
  omega

theorem decodeWord_high (low : BitVec 15) : decodeWord ((1 : BitVec 1) ++ low) = .illegalOpHigh low := by
  obtain ⟨n, hn⟩ := Nat.exists_eq_add_of_le' (eight_le_eventOp_high low)
  rw [decodeWord, hn]
  exact congrArg Instr.illegalOpHigh BitVec.extractLsb'_append_eq_right

/-- A word whose operation is 0x8 to 0xF has bit 15 set (R96). -/
theorem eq_one_append_of_eight_le {w : U16} (h : 8 ≤ eventOp w) : w = (1 : BitVec 1) ++ w.extractLsb' 0 15 := by
  have htop : w.extractLsb' 15 1 = 1 := by
    have hop : (eventOp w).extractLsb' 3 1 = 1 := by
      revert h
      generalize eventOp w = op
      revert op
      decide
    rw [← hop]
    apply BitVec.eq_of_getLsbD_eq
    intro k hk
    obtain rfl : k = 0 := by omega
    simp [eventOp]
  rw [← htop]
  exact (BitVec.extractLsb'_append_extractLsb' (w := 1) (len := 15)).symm

/-- Every word is of one of the nine forms that the decoder tells apart (R95, R96). -/
theorem eventWord_cases {motive : U16 → Prop}
    (op0 : ∀ d, motive (eventWord 0x0 d)) (op1 : ∀ d, motive (eventWord 0x1 d))
    (op2 : ∀ d, motive (eventWord 0x2 d)) (op3 : ∀ d, motive (eventWord 0x3 d))
    (op4 : ∀ d, motive (eventWord 0x4 d)) (op5 : ∀ d, motive (eventWord 0x5 d))
    (op6 : ∀ d, motive (eventWord 0x6 d)) (op7 : ∀ d, motive (eventWord 0x7 d))
    (high : ∀ low : BitVec 15, motive ((1 : BitVec 1) ++ low)) (w : U16) : motive w := by
  have split : ∀ op : BitVec 4, op = 0 ∨ op = 1 ∨ op = 2 ∨ op = 3 ∨ op = 4 ∨ op = 5 ∨ op = 6 ∨ op = 7 ∨ 8 ≤ op := by
    decide
  have hw := eventWord_eventOp_eventData w
  rcases split (eventOp w) with h | h | h | h | h | h | h | h | h
  case inr.inr.inr.inr.inr.inr.inr.inr =>
    rw [eq_one_append_of_eight_le h]
    exact high _
  all_goals
    rw [← hw, h]
    apply_assumption

/-! ### The reserved bits, as R96 masks them -/

/-- A mask of ones over the high field of a vector leaves 0 exactly when that field is 0. -/
theorem and_high_mask_eq_zero_iff {m n : Nat} (x : BitVec (m + n)) :
    x &&& (BitVec.allOnes m ++ 0#n) = 0 ↔ x.extractLsb' n m = 0 := by
  have hparts : x &&& (BitVec.allOnes m ++ 0#n) = x.extractLsb' n m ++ 0#n := by
    conv_lhs => rw [← BitVec.extractLsb'_append_extractLsb' (x := x)]
    rw [BitVec.and_append, BitVec.and_allOnes, BitVec.and_zero]
  have hzero : (0 : BitVec (m + n)) = 0#m ++ 0#n := BitVec.zero_append_zero.symm
  rw [hparts, hzero]
  exact BitVec.append_left_inj 0#n

/-- A mask of data bits reads the data of a word (R95). -/
theorem eventWord_and_eq_zero_iff (op : BitVec 4) (d m : BitVec 12) :
    eventWord op d &&& eventWord 0 m = 0 ↔ d &&& m = 0 := by
  rw [eventWord, eventWord, BitVec.and_append, show op &&& 0 = 0 from BitVec.and_zero]
  exact BitVec.append_right_inj (0 : BitVec 4) (t₂ := 0)

theorem eventWord_eq_or (op : BitVec 4) (d : BitVec 12) :
    eventWord op d = op.zeroExtend 16 <<< 12 ||| d.zeroExtend 16 :=
  (BitVec.setWidth_eq _).symm.trans BitVec.setWidth_append_eq_shiftLeft_setWidth_or

/-- The operation of a word as R96 shifts it out. -/
theorem eventWord_shift (op : BitVec 4) (d : BitVec 12) : eventWord op d >>> 12 = op.zeroExtend 16 := by
  have hop := op.isLt
  have hd := d.isLt
  apply BitVec.eq_of_toNat_eq
  rw [BitVec.toNat_ushiftRight, eventWord, BitVec.toNat_append, ← Nat.shiftLeft_add_eq_or_of_lt d.isLt,
    BitVec.toNat_setWidth, Nat.shiftRight_eq_div_pow, Nat.shiftLeft_eq]
  omega

theorem zeroExtend_op_eq_iff : ∀ op k : BitVec 4, op.zeroExtend 16 = k.zeroExtend 16 ↔ op = k := by
  decide

theorem eight_le_zeroExtend_op_iff : ∀ op : BitVec 4, (0x8 : U16) ≤ op.zeroExtend 16 ↔ 0x8 ≤ op := by
  decide

/-- R96 in terms of a word's operation and data. -/
theorem wordRefused_eventWord (op : BitVec 4) (d : BitVec 12) : wordRefused (eventWord op d) ↔
    op = 0x0 ∨ 0x8 ≤ op ∨ (op = 0x1 ∧ d.extractLsb' 8 4 ≠ 0) ∨ (op = 0x4 ∧ d.extractLsb' 2 10 ≠ 0) ∨
    ((op = 0x2 ∨ op = 0x3 ∨ op = 0x5 ∨ op = 0x6 ∨ op = 0x7) ∧ d ≠ 0) := by
  have hbyte : eventWord op d &&& 0x0F00 = 0 ↔ d.extractLsb' 8 4 = 0 :=
    (eventWord_and_eq_zero_iff op d 0xF00).trans (and_high_mask_eq_zero_iff (m := 4) (n := 8) d)
  have hstart : eventWord op d &&& 0x0FFC = 0 ↔ d.extractLsb' 2 10 = 0 :=
    (eventWord_and_eq_zero_iff op d 0xFFC).trans (and_high_mask_eq_zero_iff (m := 10) (n := 2) d)
  have hall : eventWord op d &&& 0x0FFF = 0 ↔ d = 0 :=
    (eventWord_and_eq_zero_iff op d 0xFFF).trans (iff_of_eq (congrArg (· = 0) BitVec.and_allOnes))
  have hop := zeroExtend_op_eq_iff op
  rw [wordRefused, eventWord_shift]
  exact or_congr (hop 0) <| or_congr (eight_le_zeroExtend_op_iff op) <|
    or_congr (and_congr (hop 1) (not_congr hbyte)) <| or_congr (and_congr (hop 4) (not_congr hstart)) <|
    and_congr (or_congr (hop 2) <| or_congr (hop 3) <| or_congr (hop 5) <| or_congr (hop 6) (hop 7)) (not_congr hall)

theorem wordRefused_high (low : BitVec 15) : wordRefused ((1 : BitVec 1) ++ low) := by
  rw [← eventWord_eventOp_eventData ((1 : BitVec 1) ++ low), wordRefused_eventWord]
  exact .inr (.inl (eight_le_eventOp_high low))

/-! ### Every word has one meaning -/

/-- A branch of the decoder is encoded back to its word when each of its arms is. -/
theorem encode_ite {par : Params} {w : U16} {reservedZero : Prop} [Decidable reservedZero] {legal refused : Instr}
    (hlegal : reservedZero → encode par legal = .event w) (hrefused : encode par refused = .event w) :
    encode par (if reservedZero then legal else refused) = .event w := by
  split
  · exact hlegal ‹_›
  · exact hrefused

/-- Settles O4, by the decoder's equation for each form of a word: a refused class keeps its data whole, and where the
reserved bits are 0 the legal instruction's operands are all the data there is. -/
theorem encodeDecodeWord : Obligations.EncodeDecodeWord := by
  unfold Obligations.EncodeDecodeWord
  intro par w
  induction w using eventWord_cases with
  | op0 d => rw [decodeWord_op0]; rfl
  | op1 d =>
    rw [decodeWord_op1]
    exact encode_ite (fun h => congrArg (Code.event ∘ eventWord 0x1) (zero_append_lowByte h)) rfl
  | op2 d => rw [decodeWord_op2]; exact encode_ite (fun h => h ▸ rfl) rfl
  | op3 d => rw [decodeWord_op3]; exact encode_ite (fun h => h ▸ rfl) rfl
  | op4 d =>
    rw [decodeWord_op4]
    exact encode_ite (fun h => congrArg (Code.event ∘ eventWord 0x4) (startSeqData_of_bits h)) rfl
  | op5 d => rw [decodeWord_op5]; exact encode_ite (fun h => h ▸ rfl) rfl
  | op6 d => rw [decodeWord_op6]; exact encode_ite (fun h => h ▸ rfl) rfl
  | op7 d => rw [decodeWord_op7]; exact encode_ite (fun h => h ▸ rfl) rfl
  | high low => rw [decodeWord_high]; rfl

/-! ### The refused words -/

/-- What R96 and R278 ask of a word in a state: refused for its bits and nothing else, or legal where nothing runs. -/
def RefusalRule (w : U16) (s : State) : Prop :=
  (wordRefused w → exec (decodeWord w) s = .next (s.afterRefusal w)) ∧
  (¬ wordRefused w → s.mode = .idle → s.seq.state = .notRun → s.legal (decodeWord w) = true)

/-- A word whose operation has no legal form is refused. -/
theorem refusalRule_of_refused {w : U16} {s : State} {refused : Instr} (hdecode : decodeWord w = refused)
    (hword : wordRefused w) (hexec : exec refused s = .next (s.afterRefusal w)) : RefusalRule w s :=
  ⟨fun _ => hdecode ▸ hexec, fun h => absurd hword h⟩

/-- A word whose operation has reserved bits is refused exactly when they are not 0. -/
theorem refusalRule_of_ite {w : U16} {s : State} {reservedZero : Prop} [Decidable reservedZero] {legal refused : Instr}
    (hdecode : decodeWord w = if reservedZero then legal else refused) (hword : wordRefused w ↔ ¬ reservedZero)
    (hexec : exec refused s = .next (s.afterRefusal w))
    (hlegal : s.mode = .idle → s.seq.state = .notRun → s.legal legal = true) : RefusalRule w s := by
  by_cases hbits : reservedZero
  · rw [if_pos hbits] at hdecode
    exact ⟨fun h => absurd hbits (hword.1 h), fun _ => hdecode ▸ hlegal⟩
  · rw [if_neg hbits] at hdecode
    exact refusalRule_of_refused hdecode (hword.2 hbits) hexec

/-- Settles O6: for each form of a word the decoder's reserved bits are those of R96 (`wordRefused_eventWord`), and the
class it gives when they are not 0 refuses the word. -/
theorem refusedWords : Obligations.RefusedWords := by
  unfold Obligations.RefusedWords
  intro w s
  change RefusalRule w s
  induction w using eventWord_cases with
  | op0 d => exact refusalRule_of_refused (decodeWord_op0 d) (by simp [wordRefused_eventWord]) rfl
  | op1 d => exact refusalRule_of_ite (decodeWord_op1 d) (by simp [wordRefused_eventWord]) rfl fun _ _ => rfl
  | op2 d => exact refusalRule_of_ite (decodeWord_op2 d) (by simp [wordRefused_eventWord]) rfl fun _ _ => rfl
  | op3 d => exact refusalRule_of_ite (decodeWord_op3 d) (by simp [wordRefused_eventWord]) rfl fun _ _ => rfl
  | op4 d =>
    exact refusalRule_of_ite (decodeWord_op4 d) (by simp [wordRefused_eventWord]) rfl fun hidle _ => by
      simp [State.legal, hidle]
  | op5 d =>
    exact refusalRule_of_ite (decodeWord_op5 d) (by simp [wordRefused_eventWord]) rfl fun hidle hrun => by
      simp [State.legal, hidle, hrun]
  | op6 d => exact refusalRule_of_ite (decodeWord_op6 d) (by simp [wordRefused_eventWord]) rfl fun _ _ => rfl
  | op7 d => exact refusalRule_of_ite (decodeWord_op7 d) (by simp [wordRefused_eventWord]) rfl fun _ _ => rfl
  | high low => exact refusalRule_of_refused (decodeWord_high low) (wordRefused_high low) rfl

/-- A word with bit 15 set, as the table writes it. -/
theorem one_append_eq_or (low : BitVec 15) : (1 : BitVec 1) ++ low = (0x8000 ||| low.zeroExtend 16 : U16) :=
  (BitVec.setWidth_eq _).symm.trans (BitVec.setWidth_append_eq_shiftLeft_setWidth_or (w'' := 16))

/-- Settles O7: each class refuses the word it stands for, which is its operation over its data (`eventWord_eq_or`).
That it does so for every operand is the model's choice (entry 16). -/
theorem illegalClassesRefuse : Obligations.IllegalClassesRefuse := by
  unfold Obligations.IllegalClassesRefuse
  intro s d l
  have refuses : ∀ {i : Instr} {w w' : U16}, exec i s = .next (s.refuse w) → w = w' →
      exec i s = .next (s.afterRefusal w') := fun h e => e ▸ h
  refine ⟨?op0, ?high, ?rxByte, ?rxError, ?tick, ?startSeq, ?startStream, ?cancel, ?reset⟩
  case high => exact refuses rfl (one_append_eq_or l)
  case op0 => exact refuses rfl ((eventWord_eq_or 0x0 d).trans BitVec.zero_or)
  all_goals exact refuses rfl (eventWord_eq_or _ d)

/-! ### The table of the legal words -/

theorem decodeWord_rxByteWord (b : Byte) : decodeWord (rxByteWord b) = .rxByte b := by
  have htop : ((0 : BitVec 4) ++ b).extractLsb' 8 4 = 0 := BitVec.extractLsb'_append_eq_left
  have hlow : ((0 : BitVec 4) ++ b).extractLsb' 0 8 = b := BitVec.extractLsb'_append_eq_right
  exact (decodeWord_op1 _).trans ((if_pos htop).trans (congrArg Instr.rxByte hlow))

theorem rxByteWord_eq_or (b : Byte) : rxByteWord b = 0x1000 ||| b.zeroExtend 16 := by
  have hdata : ((0 : BitVec 4) ++ b).zeroExtend 16 = b.zeroExtend 16 := by
    apply BitVec.eq_of_toNat_eq
    rw [BitVec.toNat_setWidth, BitVec.toNat_setWidth, BitVec.toNat_append]
    simp
  rw [rxByteWord, eventWord_eq_or, hdata]
  rfl

/-- Settles O5: the bytes by the decoder's equation for RX_BYTE, the single words by evaluation. -/
theorem eventWordTable : Obligations.EventWordTable := by
  unfold Obligations.EventWordTable
  refine ⟨fun b => ?_, by decide⟩
  rw [← rxByteWord_eq_or, decodeWord_rxByteWord]

end Sys2Proof
end

section
/-! PROOF. The wire frame (family 30_encoding.md, R80 to R91): its bytes, the six commands told apart by them, and
decoding an encoded instruction. -/

namespace Sys2Proof

open Machine

/-! ### The bytes of a frame -/

/-- The bytes of a frame in the order of R80. -/
theorem frame_eq (c i : Byte) (p : List Byte) : frame c i p =
    sync1 :: sync2 :: c :: i :: lowByte (payloadLength p) :: highByte (payloadLength p) ::
      (p ++ [(compute (frameBody c i (payloadLength p) p)).1, (compute (frameBody c i (payloadLength p) p)).2]) := rfl

/-- Settles O9: the frame is its sync bytes, its body (`frameBody_payloadLength`) and its checksum, and the two bytes of
its length field give the length back (`lengthField_lowByte_highByte`). -/
theorem frameLayout : Obligations.FrameLayout := by
  unfold Obligations.FrameLayout
  intro c i p hp
  dsimp only
  refine ⟨?bytes, Laws.frame_length c i p, ?lengthField⟩
  case bytes => rw [frame, frameBody_payloadLength]; rfl
  case lengthField =>
    rw [← lowByte_payloadLength, ← highByte_payloadLength, lengthField_lowByte_highByte, payloadLength_toNat hp]

/-- A frame's bytes tell its class, its id and its payload. -/
theorem frame_inj {c i c' i' : Byte} {p p' : List Byte} (h : frame c i p = frame c' i' p') :
    c = c' ∧ i = i' ∧ p = p' := by
  have hbody := (List.append_inj' (List.cons.inj (List.cons.inj h).2).2 rfl).1
  simp only [frameBody, List.cons.injEq] at hbody
  obtain ⟨hcls, hid, -, -, hpayload⟩ := hbody
  exact ⟨hcls, hid, hpayload⟩

/-! ### The six commands -/

/-- Settles O13: a step's key is the class and id in its command's frame, and the six frames are the templates of R121
to R126. -/
theorem commandFrames : Obligations.CommandFrames := by
  unfold Obligations.CommandFrames
  intro par
  refine ⟨?keys, rfl, rfl, rfl, rfl, rfl, rfl, ?default, commandFrame_setRate4x2 par, commandFrame_setRate2x1 par,
    commandFrame_enableFixOutput par, commandFrame_pollRate par, commandFrame_pollFixConfig par⟩
  case keys =>
    intro preset n
    cases n with
    | setRate => cases preset <;> exact ⟨rfl, rfl⟩
    | _ => exact ⟨rfl, rfl⟩
  case default =>
    intro hpar
    rw [commandFrame, commandPayload, hpar]
    decide

/-- The command that an id and a payload of class 0x06 are those of: the id tells SET_PROTOCOL_FILTER, whose payload is
a parameter, and the payload tells commands of one id apart (R91). -/
def commandOf (id : Byte) (p : List Byte) : Command :=
  if id = 0x00 then .setProtocolFilter
  else if id = 0x01 then if p.length = 2 then .pollFixConfig else .enableFixOutput
  else if p = [] then .pollRate
  else if p.head? = some 0xFA then .setRate4x2
  else .setRate2x1

theorem commandOf_command (par : Params) (c : Command) : commandOf (commandId c) (commandPayload par c) = c := by
  cases c <;> rfl

/-- No two commands have the same frame (41_codec_encode.md R120). -/
theorem commandFrame_injective (par : Params) : Function.Injective (commandFrame par) := by
  intro a b h
  obtain ⟨-, hid, hpayload⟩ := frame_inj h
  rw [← commandOf_command par a, ← commandOf_command par b, hid, hpayload]

/-- A command is decoded from its frame. -/
theorem decodeOutbound_commandFrame (par : Params) (c : Command) :
    decodeOutbound par (commandFrame par c) = .ok c := by
  have hfind : allCommands.find? (fun a => commandFrame par a == commandFrame par c) = some c := by
    simp only [(commandFrame_injective par).beq_eq]
    cases c <;> rfl
  rw [decodeOutbound, hfind]

/-- A command's instruction is decoded from its frame (R91). -/
theorem decode_commandFrame (par : Params) (c : Command) :
    decode par (.outbound (commandFrame par c)) = .ok c.toInstr := by
  rw [decode, decodeOutbound_commandFrame]

/-! ### Inbound messages -/

/-- A frame whose payload fits the buffer is decoded as its class, id and payload classify it, and takes all its bytes
(R80, R88). -/
theorem decodeInbound_frame {par : Params} (hpar : par.maxPayload ≤ 65535) (c i : Byte) {p : List Byte}
    (hp : p.length ≤ par.maxPayload) : decodeInbound par (frame c i p) = .ok (classify c i p, []) := by
  have hlen : (payloadLength p).toNat = p.length := payloadLength_toNat (hp.trans hpar)
  have hfits : ¬ par.maxPayload < p.length := by omega
  rw [frame_eq, decodeInbound]
  simp [lengthField_lowByte_highByte, hlen, hfits]

/-- A length above `P_MAX_PAYLOAD` ends the message at its envelope (43_framer.md R184). -/
theorem decodeInbound_overlong {par : Params} (c i : Byte) {len : U16} (hlen : par.maxPayload < len.toNat) :
    decodeInbound par [sync1, sync2, c, i, lowByte len, highByte len] = .ok (.rxOverlongFrame c i len, []) := by
  rw [decodeInbound]
  simp [lengthField_lowByte_highByte, hlen]

/-- A pair and a length with no decode are classified as Unrecognized (42_codec_decode.md R140, R165). -/
theorem classify_of_not_recognized {c i : Byte} {p : List Byte} (h : recognized c i p.length = false) :
    classify c i p = .rxUnrecognized c i p := by
  unfold recognized minPayload at h
  unfold classify
  split_ifs at h ⊢ <;> simp_all

/-- An inbound message that its row describes fits the buffer, is encoded as the frame of its class, id and payload, and
is what these classify it as. -/
theorem classify_inbound {par : Params} {n : Instr} {c id : Byte} {p : List Byte} {m : DecodedMessage}
    (h : inboundMessage par n = some (c, id, p, m)) (hw : n.wellFormed par = true) :
    p.length ≤ par.maxPayload ∧ encode par n = .inbound (frame c id p) ∧ classify c id p = n := by
  cases n <;> simp only [inboundMessage, Option.some.injEq, Prod.mk.injEq, reduceCtorEq] at h
  all_goals
    obtain ⟨rfl, rfl, rfl, rfl⟩ := h
    simp only [Instr.wellFormed, Bool.and_eq_true, Bool.not_eq_true', decide_eq_true_eq] at hw
    obtain ⟨hmin, hmax⟩ := hw
    refine ⟨hmax, rfl, ?_⟩
  case rxUnrecognized => exact classify_of_not_recognized hmin
  all_goals simp [classify, hmin]

/-- An inbound message that its row describes is decoded from its frame. -/
theorem decode_encode_inbound {par : Params} {n : Instr} {c id : Byte} {p : List Byte} {m : DecodedMessage}
    (hpar : par.maxPayload ≤ 65535) (h : inboundMessage par n = some (c, id, p, m))
    (hw : n.wellFormed par = true) : decode par (encode par n) = .ok n := by
  obtain ⟨hmax, hencode, hclassify⟩ := classify_inbound h hw
  rw [hencode, decode, decodeInbound_frame hpar c id hmax, hclassify]

/-! ### The round trip -/

theorem Params.maxPayload_le_of_wf {par : Params} (h : par.wf = true) : par.maxPayload ≤ 65535 := by
  simp only [Params.wf, Bool.and_eq_true, decide_eq_true_eq] at h
  omega

/-- An event word is decoded to the class `decodeWord` gives. -/
theorem decode_event_of {par : Params} {w : U16} {i : Instr} (h : decodeWord w = i) :
    decode par (.event w) = .ok i := congrArg Except.ok h

/-- Settles O3. An event word's row is read back by the decoder's equation for its operation; a command by its frame,
which no other command has; an inbound message by its envelope, its checksum and its kind. -/
theorem decodeEncodeRoundTrip : Obligations.DecodeEncodeRoundTrip := by
  unfold Obligations.DecodeEncodeRoundTrip
  intro par i hpar hw
  have hmax := Params.maxPayload_le_of_wf hpar
  cases i with
  | rxByte b => exact decode_event_of (decodeWord_rxByteWord b)
  | rxError => exact decode_event_of ((decodeWord_op2 0).trans (if_pos rfl))
  | tick => exact decode_event_of ((decodeWord_op3 0).trans (if_pos rfl))
  | startSeq p v =>
    obtain ⟨hreserved, hpreset, hverify⟩ := startSeqData_bits p v
    refine decode_event_of ((decodeWord_op4 _).trans ((if_pos hreserved).trans ?_))
    rw [hpreset, hverify, presetOfBit_presetBit]
  | startStream => exact decode_event_of ((decodeWord_op5 0).trans (if_pos rfl))
  | cancel => exact decode_event_of ((decodeWord_op6 0).trans (if_pos rfl))
  | reset => exact decode_event_of ((decodeWord_op7 0).trans (if_pos rfl))
  | illegalOp0 d => exact decode_event_of (decodeWord_op0 d)
  | illegalOpHigh low => exact decode_event_of (decodeWord_high low)
  | illegalRxByte d => exact decode_event_of ((decodeWord_op1 d).trans (if_neg (of_decide_eq_true hw)))
  | illegalRxError d => exact decode_event_of ((decodeWord_op2 d).trans (if_neg (of_decide_eq_true hw)))
  | illegalTick d => exact decode_event_of ((decodeWord_op3 d).trans (if_neg (of_decide_eq_true hw)))
  | illegalStartSeq d => exact decode_event_of ((decodeWord_op4 d).trans (if_neg (of_decide_eq_true hw)))
  | illegalStartStream d => exact decode_event_of ((decodeWord_op5 d).trans (if_neg (of_decide_eq_true hw)))
  | illegalCancel d => exact decode_event_of ((decodeWord_op6 d).trans (if_neg (of_decide_eq_true hw)))
  | illegalReset d => exact decode_event_of ((decodeWord_op7 d).trans (if_neg (of_decide_eq_true hw)))
  | txSetProtocolFilter => exact decode_commandFrame par .setProtocolFilter
  | txSetRate4x2 => exact decode_commandFrame par .setRate4x2
  | txSetRate2x1 => exact decode_commandFrame par .setRate2x1
  | txEnableFixOutput => exact decode_commandFrame par .enableFixOutput
  | txPollRate => exact decode_commandFrame par .pollRate
  | txPollFixConfig => exact decode_commandFrame par .pollFixConfig
  | rxFixRecord | rxRateConfig | rxMsgEnableConfig | rxAck | rxNack | rxUnrecognized =>
    exact decode_encode_inbound hmax rfl hw
  | rxOverlongFrame c id len =>
    rw [encode, decode, decodeInbound_overlong c id (of_decide_eq_true hw)]

end Sys2Proof
end

section
/-! PROOF. Receiving a whole frame (family 30_encoding.md, R98; 43_framer.md R181 to R187): the framer is followed from
the sync pattern over the envelope and the payload to the second checksum byte. -/

namespace Sys2Proof.Machine

variable {s t : State}

/-! ### A run of received bytes -/

/-- The step of one more byte does not note it anew: a byte was noted already, or the mode is not STREAM (45_stream.md
R254). -/
def State.Noted (s : State) : Prop := s.mode = .stream → s.stream.rxIdle = 0

theorem State.Noted.noteByte_eq (h : s.Noted) : s.noteByte = s := by
  unfold State.noteByte
  split
  · rename_i hmode
    exact congrArg (fun x => { s with stream.rxIdle := x }) (h hmode).symm
  · rfl

theorem State.noted_noteByte (s : State) : s.noteByte.Noted := by
  intro h
  rw [State.noteByte_mode] at h
  rw [State.noteByte_stream, h]
  rfl

/-- The run of RX_BYTE words begins with the framer's step on the first byte (30_encoding.md R98, 43_framer.md R180). -/
theorem runEvents_rxBytesWords_cons {b : Byte} (bs : List Byte) (h : s.noteByte.framerByte b = .next t) :
    runEvents (rxBytesWords (b :: bs)) s = runEvents (rxBytesWords bs) t := by
  have hexec : exec (decodeWord (rxByteWord b)) s = .next t := by
    rw [decodeWord_rxByteWord]
    exact h
  rw [rxBytesWords, List.map_cons, runEvents, hexec]
  rfl

/-- The same from a state that has noted a byte. -/
theorem State.Noted.runEvents_cons {b : Byte} (hs : s.Noted) (bs : List Byte) (h : s.framerByte b = .next t) :
    runEvents (rxBytesWords (b :: bs)) s = runEvents (rxBytesWords bs) t :=
  runEvents_rxBytesWords_cons bs (hs.noteByte_eq.symm ▸ h)

/-! ### The sync pattern and the envelope -/

/-- The first sync byte in SEEKING fills the window (43_framer.md R181). -/
theorem State.seek_sync1 (s : State) :
    s.seek sync1 = { s with framer.winByte := sync1, framer.winValid := true } := by
  unfold State.seek
  rw [if_neg]
  rintro ⟨_, _, h⟩
  exact absurd h (by decide)

/-- The framer where a frame begins (43_framer.md R181). -/
def State.beginFrame (s : State) : State :=
  { s with framer := { s.framer with
      fs := .envelope, fIdx := 0, winValid := false, winByte := sync1, runA := 0, runB := 0 } }

/-- The sync pattern in SEEKING begins a frame (43_framer.md R181). -/
theorem State.seek_sync1_seek_sync2 (s : State) : (s.seek sync1).seek sync2 = s.beginFrame := by
  rw [State.seek_sync1, State.seek, if_pos ⟨rfl, rfl, rfl⟩]
  rfl

/-- From SEEKING the sync pattern, the class, the id and the length's low byte leave the framer in the envelope they
fill (43_framer.md R181 to R183). -/
theorem runEvents_envelope (hfs : s.framer.fs = .seeking) (c i lo : Byte) (rest : List Byte) :
    runEvents (rxBytesWords (sync1 :: sync2 :: c :: i :: lo :: rest)) s =
      runEvents (rxBytesWords rest) (s.noteByte.loadEnvelope c i lo) := by
  have hnoted := s.noted_noteByte
  have hseek : s.noteByte.framer.fs = .seeking := by rw [State.noteByte_framer, hfs]
  have hseek' : (s.noteByte.seek sync1).framer.fs = .seeking := by rw [State.seek_sync1]; exact hseek
  have hnoted' : (s.noteByte.seek sync1).Noted := by rw [State.seek_sync1]; exact hnoted
  calc runEvents (rxBytesWords (sync1 :: sync2 :: c :: i :: lo :: rest)) s
    _ = runEvents (rxBytesWords (sync2 :: c :: i :: lo :: rest)) (s.noteByte.seek sync1) :=
      runEvents_rxBytesWords_cons _ (State.framerByte_seeking hseek)
    _ = runEvents (rxBytesWords (c :: i :: lo :: rest)) s.noteByte.beginFrame :=
      hnoted'.runEvents_cons _ ((State.framerByte_seeking hseek').trans
        (congrArg Host.Outcome.next s.noteByte.seek_sync1_seek_sync2))
    _ = runEvents (rxBytesWords (i :: lo :: rest)) (s.noteByte.beginFrame.classByte c) :=
      State.Noted.runEvents_cons (s := s.noteByte.beginFrame) hnoted _
        ((State.framerByte_envelope rfl).trans (State.envelope_zero rfl))
    _ = runEvents (rxBytesWords (lo :: rest)) ((s.noteByte.beginFrame.classByte c).idByte i) :=
      State.Noted.runEvents_cons (s := s.noteByte.beginFrame.classByte c) hnoted _
        ((State.framerByte_envelope rfl).trans (State.envelope_one rfl))
    _ = runEvents (rxBytesWords rest) (((s.noteByte.beginFrame.classByte c).idByte i).lengthLow lo) :=
      State.Noted.runEvents_cons (s := (s.noteByte.beginFrame.classByte c).idByte i) hnoted _
        ((State.framerByte_envelope rfl).trans (State.envelope_two rfl))
    _ = runEvents (rxBytesWords rest) (s.noteByte.loadEnvelope c i lo) := rfl

/-! ### The payload -/

/-- The framer once the last bytes `q` of a payload have arrived behind those that are there (43_framer.md R185). -/
def State.storePayload (q : List Byte) (s : State) : State :=
  let r := q.foldl ckStep (s.framer.runA, s.framer.runB)
  { s with framer := { s.framer with
      fPay := s.framer.fPay.writeList s.framer.fIdx.toNat q, runA := r.1, runB := r.2, fs := .checksum, fIdx := 0 } }

/-- The last payload byte leads to CHECKSUM (43_framer.md R185). -/
theorem State.framerByte_lastPayload {b : Byte} (hfs : s.framer.fs = .payload)
    (hin : s.framer.fIdx.toNat < s.par.maxPayload) (hlast : s.framer.fIdx + 1 = s.framer.fLen) :
    s.framerByte b = .next (s.storeByte b .checksum 0) := by
  rw [State.framerByte_payload hfs, State.payloadByte, if_pos hin]
  exact if_pos hlast

/-- Every other payload byte leads to the next index (43_framer.md R185). -/
theorem State.framerByte_nextPayload {b : Byte} (hfs : s.framer.fs = .payload)
    (hin : s.framer.fIdx.toNat < s.par.maxPayload) (hmore : s.framer.fIdx + 1 ≠ s.framer.fLen) :
    s.framerByte b = .next (s.storeByte b .payload (s.framer.fIdx + 1)) := by
  rw [State.framerByte_payload hfs, State.payloadByte, if_pos hin, ← hfs]
  exact if_neg hmore

theorem State.storePayload_storeByte (b : Byte) (q : List Byte) (fs : FramerState)
    (hnext : (s.framer.fIdx + 1).toNat = s.framer.fIdx.toNat + 1) :
    (s.storeByte b fs (s.framer.fIdx + 1)).storePayload q = s.storePayload (b :: q) := by
  simp only [State.storePayload, State.storeByte, hnext]
  rfl

/-- The rest of a payload, received in PAYLOAD up to its end, leads to CHECKSUM (43_framer.md R185). -/
theorem runEvents_payload {b : Byte} {q : List Byte} (rest : List Byte) (hs : s.Noted) (hfs : s.framer.fs = .payload)
    (hlen : s.framer.fIdx.toNat + (q.length + 1) = s.framer.fLen.toNat)
    (hmax : s.framer.fLen.toNat ≤ s.par.maxPayload) :
    runEvents (rxBytesWords (b :: (q ++ rest))) s = runEvents (rxBytesWords rest) (s.storePayload (b :: q)) := by
  induction q generalizing s b with
  | nil =>
    have hlast : s.framer.fIdx + 1 = s.framer.fLen := by
      rw [List.length_nil] at hlen
      bv_omega
    exact hs.runEvents_cons _ (State.framerByte_lastPayload hfs (by omega) hlast)
  | cons b' q ih =>
    rw [List.length_cons] at hlen
    have hmore : s.framer.fIdx + 1 ≠ s.framer.fLen := by bv_omega
    have hnext : (s.framer.fIdx + 1).toNat = s.framer.fIdx.toNat + 1 := by bv_omega
    have hlen' : (s.framer.fIdx + 1).toNat + (q.length + 1) = s.framer.fLen.toNat := by omega
    calc runEvents (rxBytesWords (b :: (b' :: q ++ rest))) s
      _ = runEvents (rxBytesWords (b' :: (q ++ rest))) (s.storeByte b .payload (s.framer.fIdx + 1)) :=
        hs.runEvents_cons _ (State.framerByte_nextPayload hfs (by omega) hmore)
      _ = runEvents (rxBytesWords rest) ((s.storeByte b .payload (s.framer.fIdx + 1)).storePayload (b' :: q)) :=
        ih (s := s.storeByte b .payload (s.framer.fIdx + 1)) hs rfl hlen' hmax
      _ = runEvents (rxBytesWords rest) (s.storePayload (b :: b' :: q)) := by
        rw [State.storePayload_storeByte _ _ _ hnext]

/-! ### The whole frame -/

/-- The framer once a length field within `P_MAX_PAYLOAD` has arrived (43_framer.md R184). -/
def State.awaitPayload (c i : Byte) (len : U16) (s : State) : State :=
  let ck := compute (frameBody c i len [])
  { s with framer := { s.framer with
      fs := if len = 0 then .checksum else .payload, fIdx := 0, winValid := false, winByte := sync1,
      fClass := c, fId := i, fLen := len, runA := ck.1, runB := ck.2 } }

theorem State.loadEnvelope_lengthHigh (c i : Byte) {len : U16} (hmax : len.toNat ≤ s.par.maxPayload) :
    (s.loadEnvelope c i (lowByte len)).lengthHigh (highByte len) = s.awaitPayload c i len := by
  have hfull : (s.loadEnvelope c i (lowByte len)).fullLength (highByte len) = len :=
    lengthField_lowByte_highByte len
  rw [State.lengthHigh_eq, State.storeLength, hfull]
  rcases State.checkLength_cases
    (({ s.loadEnvelope c i (lowByte len) with framer.fLen := len } : State).ckByte (highByte len)) len
    with ⟨hover, _⟩ | ⟨hzero, _, e⟩ | ⟨hne, _, e⟩
  · exact absurd hover (Nat.not_lt.2 hmax)
  · rw [e, State.awaitPayload, if_pos hzero]
    rfl
  · rw [e, State.awaitPayload, if_neg hne]
    rfl

/-- The framer once a frame that began in SEEKING has been received up to its last payload byte (43_framer.md R185). -/
def State.loadBody (c i : Byte) (p : List Byte) (s : State) : State :=
  { s with framer := { (s.loadFrame c i p s.framer.fCka).framer with fIdx := 0 } }

/-- The payload of an awaited length fills the body of the frame (43_framer.md R184, R185). -/
theorem runEvents_awaitPayload (hs : s.Noted) (c i : Byte) {p : List Byte} (rest : List Byte)
    (hlen : (payloadLength p).toNat = p.length) (hmax : p.length ≤ s.par.maxPayload) :
    runEvents (rxBytesWords (p ++ rest)) (s.awaitPayload c i (payloadLength p)) =
      runEvents (rxBytesWords rest) (s.loadBody c i p) := by
  cases p with
  | nil => rfl
  | cons b q =>
    have hne : payloadLength (b :: q) ≠ 0 := fun h => by
      rw [h] at hlen
      simp at hlen
    rw [List.cons_append, runEvents_payload (s := s.awaitPayload c i (payloadLength (b :: q))) rest hs (if_neg hne) ?len
      (hlen.trans_le hmax)]
    case len => exact (Nat.zero_add _).trans hlen.symm
    rfl

/-- From SEEKING the sync pattern and the body of a frame are received whole (43_framer.md R181 to R185). -/
theorem runEvents_body (hfs : s.framer.fs = .seeking) (c i : Byte) {p : List Byte} (rest : List Byte)
    (hlen : (payloadLength p).toNat = p.length) (hmax : p.length ≤ s.par.maxPayload) :
    runEvents (rxBytesWords (sync1 :: sync2 :: (frameBody c i (payloadLength p) p ++ rest))) s =
      runEvents (rxBytesWords rest) (s.noteByte.loadBody c i p) := by
  have hmax' : p.length ≤ s.noteByte.par.maxPayload := by rw [State.noteByte_par]; exact hmax
  have hlengthHigh := s.noteByte.loadEnvelope_lengthHigh c i (hlen.trans_le hmax')
  calc runEvents (rxBytesWords (sync1 :: sync2 :: (frameBody c i (payloadLength p) p ++ rest))) s
    _ = runEvents (rxBytesWords (highByte (payloadLength p) :: (p ++ rest)))
        (s.noteByte.loadEnvelope c i (lowByte (payloadLength p))) := runEvents_envelope hfs c i _ _
    _ = runEvents (rxBytesWords (p ++ rest)) (s.noteByte.awaitPayload c i (payloadLength p)) :=
      State.Noted.runEvents_cons (s := s.noteByte.loadEnvelope c i (lowByte (payloadLength p))) s.noted_noteByte _
        ((State.framerByte_envelope rfl).trans
          ((State.envelope_three rfl).trans (congrArg Host.Outcome.next hlengthHigh)))
    _ = runEvents (rxBytesWords rest) (s.noteByte.loadBody c i p) :=
      runEvents_awaitPayload s.noted_noteByte c i rest hlen hmax'

/-- The buffer of a loaded frame holds its payload. -/
theorem State.payload_loadFrame (c i : Byte) (p : List Byte) (a : Byte) :
    (s.loadFrame c i p a).payload p.length = p := by
  apply List.ext_getElem (State.payload_length _ _)
  intro k _ hk
  simp [State.payload, State.payByte, State.loadFrame, Memory.read?_writeList, hk]

/-- The second checksum byte of a valid frame hands its message off (43_framer.md R187). -/
theorem State.checksumSecond_loadFrame (c i : Byte) {p : List Byte}
    (hlen : (payloadLength p).toNat = p.length) (hmax : p.length ≤ s.par.maxPayload) :
    (s.loadFrame c i p (rawFrame c i p).checksumA).checksumSecond (rawFrame c i p).checksumB =
      .next ((s.loadFrame c i p (rawFrame c i p).checksumA).acceptFrame (rawFrame c i p)
        (decodePayload s.par c i p)) := by
  have hfits : (s.loadFrame c i p (rawFrame c i p).checksumA).framer.fLen.toNat ≤
      (s.loadFrame c i p (rawFrame c i p).checksumA).par.maxPayload := hlen.trans_le hmax
  have hpayload : (s.loadFrame c i p (rawFrame c i p).checksumA).payload
      (s.loadFrame c i p (rawFrame c i p).checksumA).framer.fLen.toNat = p :=
    (congrArg (s.loadFrame c i p _).payload hlen).trans (s.payload_loadFrame c i p _)
  rw [State.checksumSecond, if_pos hfits, hpayload]
  exact if_pos ⟨rfl, rfl⟩

/-- The two checksum bytes behind a loaded body are the end of a valid frame (43_framer.md R186, R187). -/
theorem runEvents_checksum (hs : s.Noted) (c i : Byte) {p : List Byte}
    (hlen : (payloadLength p).toNat = p.length) (hmax : p.length ≤ s.par.maxPayload) :
    runEvents (rxBytesWords [(rawFrame c i p).checksumA, (rawFrame c i p).checksumB]) (s.loadBody c i p) =
      .next ((s.loadFrame c i p (rawFrame c i p).checksumA).acceptFrame (rawFrame c i p)
        (decodePayload s.par c i p)) :=
  calc runEvents (rxBytesWords [(rawFrame c i p).checksumA, (rawFrame c i p).checksumB]) (s.loadBody c i p)
    _ = runEvents (rxBytesWords [(rawFrame c i p).checksumB]) (s.loadFrame c i p (rawFrame c i p).checksumA) :=
      State.Noted.runEvents_cons (s := s.loadBody c i p) hs _
        ((State.framerByte_checksum rfl).trans (State.checksumByte_zero rfl))
    _ = runEvents (rxBytesWords []) ((s.loadFrame c i p (rawFrame c i p).checksumA).acceptFrame (rawFrame c i p)
        (decodePayload s.par c i p)) :=
      State.Noted.runEvents_cons (s := s.loadFrame c i p (rawFrame c i p).checksumA) hs _
        ((State.framerByte_checksum rfl).trans
          ((State.checksumByte_one rfl).trans (s.checksumSecond_loadFrame c i hlen hmax)))

/-! ### The inbound message -/

/-- Whatever kind a frame is classified as, its message is the whole frame, received (entry 1). -/
theorem exec_classify (c i : Byte) (p : List Byte) (s : State) :
    exec (classify c i p) s = s.receiveFrame c i p := by
  unfold classify
  split_ifs with h h h h h
  case neg => rfl
  all_goals
    obtain ⟨rfl, rfl, -⟩ := h
    rfl

/-- Settles O21: the framer takes the body byte by byte (`runEvents_body`) and hands the message off with the second
checksum byte (`runEvents_checksum`), which is what the message's instruction does (`exec_classify`). That a message is
an instruction of its own is the model's reading (entries 1 and 18). -/
theorem wholeFrameIsMessage : Obligations.WholeFrameIsMessage := by
  unfold Obligations.WholeFrameIsMessage
  intro s c i p hpar hfs hmax
  have hlen : (payloadLength p).toNat = p.length :=
    payloadLength_toNat (hmax.trans (Params.maxPayload_le_of_wf hpar))
  have hmax' : p.length ≤ s.noteByte.par.maxPayload := by rw [State.noteByte_par]; exact hmax
  calc runEvents (rxFrameWords c i p) s
    _ = runEvents (rxBytesWords [(rawFrame c i p).checksumA, (rawFrame c i p).checksumB])
        (s.noteByte.loadBody c i p) := runEvents_body hfs c i _ hlen hmax
    _ = s.receiveFrame c i p := by
      rw [runEvents_checksum s.noted_noteByte c i hlen hmax', State.noteByte_par, State.receiveFrame_eq hmax]
    _ = exec (classify c i p) s := (exec_classify c i p s).symm

end Sys2Proof.Machine
end

section
/-! PROOF. Reading a payload's fields (family 30_encoding.md, R84, R85, R93): a field is its bytes, low byte first, and
the reserved bytes are in no field. -/

namespace Sys2Proof.Machine

/-! ### A field and its bytes -/

theorem getElem?_eq_byteAt {p : List Byte} {o : Nat} (h : o < p.length) : p[o]? = some (byteAt p o) := by
  rw [byteAt, List.getD_eq_getElem?_getD, List.getElem?_eq_getElem h, Option.getD_some]

theorem memRead_lt (p : List Byte) (o n : Nat) : memRead p o n < 2 ^ (8 * n) := by
  induction n generalizing o with
  | zero => exact Nat.zero_lt_one
  | succ n ih =>
    have hbyte := (byteAt p o).isLt
    have hrest := ih (o + 1)
    rw [memRead, Nat.mul_succ, Nat.pow_add]
    omega

/-- The base-256 digits of a field's value are its bytes (R84). -/
theorem memRead_digit (p : List Byte) (o : Nat) {k n : Nat} (hk : k < n) :
    memRead p o n / 2 ^ (8 * k) % 2 ^ 8 = (byteAt p (o + k)).toNat := by
  induction n generalizing o k with
  | zero => exact absurd hk (Nat.not_lt_zero k)
  | succ n ih =>
    have hbyte := (byteAt p o).isLt
    rw [memRead]
    cases k with
    | zero =>
      change ((byteAt p o).toNat + 256 * memRead p (o + 1) n) / 1 % 2 ^ 8 = (byteAt p o).toNat
      omega
    | succ k =>
      have hshift : ((byteAt p o).toNat + 256 * memRead p (o + 1) n) / 2 ^ 8 = memRead p (o + 1) n := by omega
      rw [Nat.mul_succ, Nat.add_comm (8 * k), Nat.pow_add, ← Nat.div_div_eq_div_mul, hshift,
        ih (o + 1) (Nat.lt_of_succ_lt_succ hk), Nat.add_assoc, Nat.add_comm 1 k]

/-- Byte `k` of an `n`-byte field, from the lowest up, is the payload byte `k` places on (R84). -/
theorem extractLsb'_memRead (p : List Byte) (o : Nat) {k n : Nat} (hk : k < n) :
    (BitVec.ofNat (8 * n) (memRead p o n)).extractLsb' (8 * k) 8 = byteAt p (o + k) := by
  apply BitVec.eq_of_toNat_eq
  rw [BitVec.extractLsb'_toNat, BitVec.toNat_ofNat, Nat.mod_eq_of_lt (memRead_lt p o n), Nat.shiftRight_eq_div_pow,
    memRead_digit p o hk]

/-- The byte of a field that lies within the payload (R84). -/
theorem getElem?_eq_extractLsb'_memRead {p : List Byte} {o k n : Nat} (hk : k < n) (ho : o + n ≤ p.length) :
    p[o + k]? = some ((BitVec.ofNat (8 * n) (memRead p o n)).extractLsb' (8 * k) 8) := by
  rw [extractLsb'_memRead p o hk, getElem?_eq_byteAt (by omega)]

/-- The two's-complement reading of a field's value is that of its bits (R85). -/
theorem twosComplement_memRead (p : List Byte) (o n : Nat) :
    twosComplement (n + 1) (memRead p o (n + 1)) =
      (BitVec.ofNat (8 * (n + 1)) (memRead p o (n + 1))).toInt := by
  have hhalf : 2 ^ (8 * (n + 1)) = 2 * 2 ^ (8 * (n + 1) - 1) := by
    rw [← Nat.pow_succ']
    congr 1
  rw [BitVec.toInt_eq_toNat_cond, BitVec.toNat_ofNat, Nat.mod_eq_of_lt (memRead_lt p o (n + 1)), twosComplement]
  by_cases hsign : memRead p o (n + 1) < 2 ^ (8 * (n + 1) - 1)
  · rw [if_pos hsign, if_pos (by omega)]
  · rw [if_neg hsign, if_neg (by omega)]
    push_cast
    rfl

/-- Settles O29: the bytes of a field are its base-256 digits (`getElem?_eq_extractLsb'_memRead`), and a signed field is
the two's-complement reading of the same bits (`twosComplement_memRead`). -/
theorem fieldAssembly : Obligations.FieldAssembly := by
  unfold Obligations.FieldAssembly
  intro p o
  refine ⟨?byte, ?word, ?long⟩
  case byte => exact fun h => getElem?_eq_byteAt h
  case word =>
    intro h
    have byte := fun k (hk : k < 2) => getElem?_eq_extractLsb'_memRead hk h
    exact ⟨byte 0 (by decide), byte 1 (by decide), twosComplement_memRead p o 1⟩
  case long =>
    intro h
    have byte := fun k (hk : k < 4) => getElem?_eq_extractLsb'_memRead hk h
    exact ⟨byte 0 (by decide), byte 1 (by decide), byte 2 (by decide), byte 3 (by decide), twosComplement_memRead p o 3⟩

/-! ### The reserved bytes -/

/-- Payloads that agree below 6 have the same rate configuration (42_codec_decode.md R160). -/
theorem decodeRate_congr {p q : List Byte} (h : ∀ k < 6, byteAt p k = byteAt q k) : decodeRate p = decodeRate q := by
  simp (disch := decide) only [decodeRate, le16, memRead, h]

theorem decodeMsg_congr (par : Params) {p q : List Byte} (h : ∀ k < 8, byteAt p k = byteAt q k) :
    decodeMsg par p = decodeMsg par q := by
  simp (disch := decide) only [decodeMsg, h]

theorem decodeEcho_congr {p q : List Byte} (h : ∀ k < 2, byteAt p k = byteAt q k) : decodeEcho p = decodeEcho q := by
  simp (disch := decide) only [decodeEcho, h]

/-- Payloads that agree below 92, but for the reserved bytes 79 to 83, have the same fix record (42_codec_decode.md
R144). -/
theorem decodeFix_congr {p q : List Byte} (h : ∀ k < 92, ¬ (79 ≤ k ∧ k ≤ 83) → byteAt p k = byteAt q k) :
    decodeFix p = decodeFix q := by
  simp (disch := decide) only [decodeFix, le16, le32, s16, s32, memRead, h]

/-- Settles O28: each decoder reads bytes below its kind's minimum only, and `decodeFix` none of the reserved ones. -/
theorem reservedBytesNotRead : Obligations.ReservedBytesNotRead := by
  unfold Obligations.ReservedBytesNotRead
  intro par c i m p q hmin hp hq hagree
  have hbyte : ∀ k < m, ¬ (c = 0x01 ∧ 79 ≤ k ∧ k ≤ 83) → byteAt p k = byteAt q k := fun k hk hrsv => by
    rw [byteAt, byteAt, List.getD_eq_getElem?_getD, List.getD_eq_getElem?_getD, hagree k hk hrsv]
  unfold minPayload at hmin
  split_ifs at hmin with hkind hkind hkind hkind hkind
  all_goals
    obtain ⟨rfl, rfl⟩ := hkind
    cases hmin
  · simp [decodePayload, hp, hq, decodeRate_congr fun k hk => hbyte k hk (by simp)]
  · simp [decodePayload, hp, hq, decodeMsg_congr par fun k hk => hbyte k hk (by simp)]
  · simp [decodePayload, hp, hq, decodeFix_congr fun k hk hrsv => hbyte k hk fun h => hrsv h.2]
  · simp [decodePayload, hp, hq, decodeEcho_congr fun k hk => hbyte k hk (by simp)]
  · simp [decodePayload, hp, hq, decodeEcho_congr fun k hk => hbyte k hk (by simp)]

end Sys2Proof.Machine
end

section
/-! PROOF. The Checksum Unit (family 40_checksum.md, R110, R111, R115): the checksum is a pair of weighted sums modulo
256, and it is additive in the bytes. -/

namespace Sys2Proof.Machine

/-! ### The loop and its two sums -/

theorem byteSum_concat (bs : List Byte) (b : Byte) : byteSum (bs ++ [b]) = byteSum bs + b.toNat := by
  induction bs with
  | nil => simp [byteSum]
  | cons c cs ih => rw [List.cons_append, byteSum, ih, byteSum, Nat.add_assoc]

/-- One more byte raises every byte's weight by 1, so the weighted sum grows by the new byte sum: the loop's second
update (R110). -/
theorem weightedSum_concat (bs : List Byte) (b : Byte) :
    weightedSum (bs ++ [b]) = weightedSum bs + byteSum (bs ++ [b]) := by
  induction bs with
  | nil => simp [weightedSum, byteSum]
  | cons c cs ih =>
    rw [List.cons_append, weightedSum, ih, weightedSum, byteSum, List.length_append, List.length_singleton]
    ring

theorem ofNat_byteSum_concat (bs : List Byte) (b : Byte) :
    BitVec.ofNat 8 (byteSum (bs ++ [b])) = BitVec.ofNat 8 (byteSum bs) + b := by
  rw [byteSum_concat, BitVec.ofNat_add, BitVec.ofNat_toNat, BitVec.setWidth_eq]

/-- The closed form of the loop (R110). -/
theorem compute_eq_sums (bs : List Byte) :
    compute bs = (BitVec.ofNat 8 (byteSum bs), BitVec.ofNat 8 (weightedSum bs)) := by
  induction bs using List.reverseRecOn with
  | nil => rfl
  | append_singleton bs b ih =>
    rw [compute_concat, ih, ckStep, weightedSum_concat, BitVec.ofNat_add, ofNat_byteSum_concat]

/-- Settles O10: the loop is `compute_concat`, and its closed form `compute_eq_sums`. -/
theorem checksumSums : Obligations.ChecksumSums := by
  unfold Obligations.ChecksumSums
  exact ⟨rfl, compute_concat, compute_eq_sums⟩

/-! ### The blind spot -/

/-- A step of the loop is additive in the sums and the byte together. -/
theorem ckStep_add (r q : Byte × Byte) (b d : Byte) : ckStep (r + q) (b + d) = ckStep r b + ckStep q d := by
  apply Prod.ext
  · exact add_add_add_comm r.1 q.1 b d
  · change r.2 + q.2 + (r.1 + q.1 + (b + d)) = r.2 + (r.1 + b) + (q.2 + (q.1 + d))
    rw [add_add_add_comm r.1, add_add_add_comm r.2]

theorem foldl_ckStep_zipWith_add {bs ds : List Byte} (h : bs.length = ds.length) (r q : Byte × Byte) :
    (List.zipWith (· + ·) bs ds).foldl ckStep (r + q) = bs.foldl ckStep r + ds.foldl ckStep q := by
  induction bs generalizing ds r q with
  | nil =>
    obtain rfl := List.length_eq_zero_iff.mp h.symm
    rfl
  | cons b bs ih =>
    cases ds with
    | nil => cases h
    | cons d ds =>
      rw [List.zipWith_cons_cons, List.foldl_cons, List.foldl_cons, List.foldl_cons, ckStep_add,
        ih (Nat.succ.inj h)]

/-- The checksum of a bytewise sum is the sum of the checksums. -/
theorem compute_zipWith_add {bs ds : List Byte} (h : bs.length = ds.length) :
    compute (List.zipWith (· + ·) bs ds) = compute bs + compute ds :=
  foldl_ckStep_zipWith_add h (0, 0) (0, 0)

theorem ofNat_eq_zero_iff_mod (n : Nat) : BitVec.ofNat 8 n = 0 ↔ n % 256 = 0 := by
  rw [BitVec.toNat_eq, BitVec.toNat_ofNat]
  rfl

theorem compute_eq_zero_iff (ds : List Byte) :
    compute ds = 0 ↔ byteSum ds % 256 = 0 ∧ weightedSum ds % 256 = 0 := by
  rw [compute_eq_sums, Prod.mk_eq_zero, ofNat_eq_zero_iff_mod, ofNat_eq_zero_iff_mod]

/-- Settles O11: the checksum is additive (`compute_zipWith_add`), so a change goes unseen exactly when its own checksum
is 0, which is the two sums' condition (`compute_eq_zero_iff`). -/
theorem checksumBlindSpot : Obligations.ChecksumBlindSpot := by
  unfold Obligations.ChecksumBlindSpot
  intro bs ds hlen
  rw [compute_zipWith_add hlen, add_eq_left, compute_eq_zero_iff]

/-! ### Validation -/

/-- Settles O12: `validate` compares the pair of bytes, so both of them, over the body the statement writes out. -/
theorem validateComparesBothBytes : Obligations.ValidateComparesBothBytes := by
  unfold Obligations.ValidateComparesBothBytes
  intro f
  rw [validate, decide_eq_true_iff, Prod.ext_iff]
  rfl

end Sys2Proof.Machine
end

section
/-! PROOF. The payload decoder and the scaler (family 42_codec_decode.md, R140 to R165, R170, R171): each field of a
laid out payload is found behind the fields before it, and read back. -/

namespace Sys2Proof.Machine

/-! ### The kinds of messages -/

/-- Settles O27: the decoder tries the five rows in order (R140), and none but the fallback answers Unrecognized. -/
theorem unrecognizedFallback : Obligations.UnrecognizedFallback := by
  unfold Obligations.UnrecognizedFallback
  intro par c i p
  unfold decodePayload
  dsimp only
  split_ifs with hrate hmsg hfix hack hnack
  · exact iff_of_false nofun fun h => h (.inl hrate)
  · exact iff_of_false nofun fun h => h (.inr (.inl hmsg))
  · exact iff_of_false nofun fun h => h (.inr (.inr (.inl hfix)))
  · exact iff_of_false nofun fun h => h (.inr (.inr (.inr (.inl hack))))
  · exact iff_of_false nofun fun h => h (.inr (.inr (.inr (.inr hnack))))
  · exact iff_of_true rfl (not_or.2 ⟨hrate, not_or.2 ⟨hmsg, not_or.2 ⟨hfix, not_or.2 ⟨hack, hnack⟩⟩⟩⟩)

section
variable (par : Params) {p : List Byte}

theorem decodePayload_rateConfig (h : 6 ≤ p.length) :
    decodePayload par 0x06 0x08 p = .rateConfig (decodeRate p) :=
  if_pos ⟨rfl, rfl, h⟩

theorem decodePayload_msgEnableConfig (h : 8 ≤ p.length) :
    decodePayload par 0x06 0x01 p = .msgEnableConfig (decodeMsg par p) := by
  simp [decodePayload, h]

theorem decodePayload_fixRecord (h : 92 ≤ p.length) :
    decodePayload par 0x01 0x07 p = .fixRecord (decodeFix p) := by
  simp [decodePayload, h]

theorem decodePayload_ack (h : 2 ≤ p.length) : decodePayload par 0x05 0x01 p = .ack (decodeEcho p) := by
  simp [decodePayload, h]

theorem decodePayload_nack (h : 2 ≤ p.length) : decodePayload par 0x05 0x00 p = .nack (decodeEcho p) := by
  simp [decodePayload, h]

end

/-! ### Fields behind other bytes -/

section
variable {q : List Byte} (p : List Byte) {o : Nat}

theorem byteAt_append_left (h : o < q.length) : byteAt (q ++ p) o = byteAt q o :=
  List.getD_append q p 0 o h

theorem byteAt_append_right (h : q.length ≤ o) : byteAt (q ++ p) o = byteAt p (o - q.length) :=
  List.getD_append_right q p 0 o h

theorem memRead_append_right (h : q.length ≤ o) (n : Nat) :
    memRead (q ++ p) o n = memRead p (o - q.length) n := by
  induction n generalizing o with
  | zero => rfl
  | succ n ih => rw [memRead, memRead, byteAt_append_right p h, ih (Nat.le_succ_of_le h), Nat.succ_sub h]

theorem le16_append_right (h : q.length ≤ o) : le16 (q ++ p) o = le16 p (o - q.length) :=
  congrArg (BitVec.ofNat 16) (memRead_append_right p h 2)

theorem le32_append_right (h : q.length ≤ o) : le32 (q ++ p) o = le32 p (o - q.length) :=
  congrArg (BitVec.ofNat 32) (memRead_append_right p h 4)

theorem s16_append_right (h : q.length ≤ o) : s16 (q ++ p) o = s16 p (o - q.length) :=
  congrArg (twosComplement 2) (memRead_append_right p h 2)

theorem s32_append_right (h : q.length ≤ o) : s32 (q ++ p) o = s32 p (o - q.length) :=
  congrArg (twosComplement 4) (memRead_append_right p h 4)

end

/-! ### A laid out field, read back -/

@[simp] theorem littleEndian_length (n : Nat) (v : Int) : (littleEndian n v).length = n := by
  induction n generalizing v with
  | zero => rfl
  | succ n ih => rw [littleEndian, List.length_cons, ih]

theorem toNat_ofInt_byte (v : Int) : ((BitVec.ofInt 8 v).toNat : Int) = v % 256 := by
  rw [BitVec.toNat_ofInt]
  exact Int.toNat_of_nonneg (Int.emod_nonneg v (by decide))

/-- The bytes of an integer read as the integer, up to what the field's width cannot hold (R10, R84). -/
theorem memRead_littleEndian_modEq (n : Nat) (v : Int) (p : List Byte) :
    (memRead (littleEndian n v ++ p) 0 n : Int) ≡ v [ZMOD 2 ^ (8 * n)] := by
  induction n generalizing v with
  | zero => exact Int.modEq_one
  | succ n ih =>
    have hrest : memRead (littleEndian (n + 1) v ++ p) 1 n = memRead (littleEndian n (v / 256) ++ p) 0 n :=
      memRead_append_right (q := [BitVec.ofInt 8 v]) _ (Nat.le_refl 1) n
    have hwidth : (2 : Int) ^ (8 * (n + 1)) = 256 * 2 ^ (8 * n) := by ring
    rw [hwidth]
    calc (memRead (littleEndian (n + 1) v ++ p) 0 (n + 1) : Int)
      _ = v % 256 + 256 * (memRead (littleEndian n (v / 256) ++ p) 0 n : Int) := by
        rw [← hrest, ← toNat_ofInt_byte]
        exact_mod_cast rfl
      _ ≡ v % 256 + 256 * (v / 256) [ZMOD 256 * 2 ^ (8 * n)] := (ih (v / 256)).mul_left'.add_left _
      _ = v := Int.emod_add_mul_ediv v 256

/-- The bits of a laid out field are those of the integer. -/
theorem ofNat_memRead_littleEndian (n : Nat) (v : Int) (p : List Byte) :
    BitVec.ofNat (8 * n) (memRead (littleEndian n v ++ p) 0 n) = BitVec.ofInt (8 * n) v := by
  apply BitVec.eq_of_toNat_eq
  rw [← BitVec.ofInt_natCast, BitVec.toNat_ofInt, BitVec.toNat_ofInt, Nat.cast_pow]
  exact congrArg Int.toNat (memRead_littleEndian_modEq n v p)

theorem le16_littleEndian (x : U16) (p : List Byte) : le16 (littleEndian 2 x.toNat ++ p) 0 = x :=
  (ofNat_memRead_littleEndian 2 x.toNat p).trans (by rw [BitVec.ofInt_natCast, BitVec.ofNat_toNat, BitVec.setWidth_eq])

theorem le32_littleEndian (x : U32) (p : List Byte) : le32 (littleEndian 4 x.toNat ++ p) 0 = x :=
  (ofNat_memRead_littleEndian 4 x.toNat p).trans (by rw [BitVec.ofInt_natCast, BitVec.ofNat_toNat, BitVec.setWidth_eq])

/-- A laid out signed field that holds its integer reads as it (R85). -/
theorem twosComplement_littleEndian {n : Nat} {v : Int} (hlow : -2 ^ (8 * (n + 1) - 1) ≤ v)
    (hhigh : v < 2 ^ (8 * (n + 1) - 1)) (p : List Byte) :
    twosComplement (n + 1) (memRead (littleEndian (n + 1) v ++ p) 0 (n + 1)) = v := by
  rw [twosComplement_memRead, ofNat_memRead_littleEndian]
  exact BitVec.toInt_ofInt_eq_self (by omega) hlow hhigh

theorem s16_littleEndian {v : Int} (h : fitsSigned16 v) (p : List Byte) : s16 (littleEndian 2 v ++ p) 0 = v :=
  twosComplement_littleEndian (n := 1) h.1 (Int.lt_add_one_of_le h.2) p

theorem s32_littleEndian {v : Int} (h : fitsSigned32 v) (p : List Byte) : s32 (littleEndian 4 v ++ p) 0 = v :=
  twosComplement_littleEndian (n := 3) h.1 (Int.lt_add_one_of_le h.2) p

/-! ### The records -/

theorem fixPayload_length (r : FixRecord) (rsv : Vector Byte 5) : (fixPayload r rsv).length = 92 := by
  simp [fixPayload]

/-- Each field of the layout is found behind the fields before it, by their lengths, and read back (R144). -/
theorem decodeFix_fixPayload {r : FixRecord} (h : r.inRange) (rsv : Vector Byte 5) (extra : List Byte) :
    decodeFix (fixPayload r rsv ++ extra) = r := by
  obtain ⟨hnano, hlon, hlat, hheight, hhMSL, hvelN, hvelE, hvelD, hgSpeed, hheadMot, hheadVeh, hmagDec⟩ := h
  simp only [decodeFix, fixPayload, List.flatten_cons, List.flatten_nil, List.append_assoc, List.nil_append,
    byteAt_append_left, byteAt_append_right, le16_append_right, le32_append_right, s16_append_right, s32_append_right,
    littleEndian_length, List.length_cons, List.length_nil, Vector.length_toList, Nat.reduceSub, Nat.reduceAdd,
    Nat.reduceLeDiff, Nat.reduceLT, le_refl]
  rw [s32_littleEndian hnano, s32_littleEndian hlon, s32_littleEndian hlat, s32_littleEndian hheight,
    s32_littleEndian hhMSL, s32_littleEndian hvelN, s32_littleEndian hvelE, s32_littleEndian hvelD,
    s32_littleEndian hgSpeed, s32_littleEndian hheadMot, s32_littleEndian hheadVeh, s16_littleEndian hmagDec]
  simp only [le16_littleEndian, le32_littleEndian]
  rfl

/-- Settles O30: the payload has the 92 bytes of its kind, whose fields decode to the record (`decodeFix_fixPayload`).
The layout is the spec's general knowledge (entry 13). -/
theorem fixRecordLayout : Obligations.FixRecordLayout := by
  unfold Obligations.FixRecordLayout
  intro par r rsv extra hr
  have hlen : 92 ≤ (fixPayload r rsv ++ extra).length := by
    rw [List.length_append, fixPayload_length]
    exact Nat.le_add_right 92 _
  rw [decodePayload_fixRecord par hlen, decodeFix_fixPayload hr]

/-- The three fields of a rate configuration are laid out one behind the other (R160). -/
theorem decodeRate_littleEndian (measRate navRate timeRef : U16) (extra : List Byte) :
    decodeRate (littleEndian 2 measRate.toNat ++ (littleEndian 2 navRate.toNat ++
      (littleEndian 2 timeRef.toNat ++ extra))) =
      { measRate := measRate, navRate := navRate, timeRef := timeRef } := by
  simp [decodeRate, le16_append_right, le16_littleEndian]

/-- The interface rates of a payload are its bytes 2 to 7, and `enabled` is the active interface's alone (R162). -/
theorem decodeMsg_rates (par : Params) (c i : Byte) (rates : Vector Byte 6) (extra : List Byte) :
    decodeMsg par ([c, i] ++ (rates.toList ++ extra)) =
      { msgClass := c, msgId := i, rates := rates, enabled := decide (rates[par.ifPort] ≠ 0) } := by
  have hbyte : ∀ k (hk : k < 6), byteAt ([c, i] ++ (rates.toList ++ extra)) (k + 2) = rates[k] := fun k hk => by
    rw [byteAt_append_right _ (Nat.le_add_left 2 k), byteAt_append_left _ (by simpa using hk)]
    simp [byteAt, hk]
  have hrates : rates = #v[rates[0], rates[1], rates[2], rates[3], rates[4], rates[5]] := by
    ext k hk
    interval_cases k <;> rfl
  rw [decodeMsg, hbyte 0 (by decide), hbyte 1 (by decide), hbyte 2 (by decide), hbyte 3 (by decide),
    hbyte 4 (by decide), hbyte 5 (by decide), ← hrates, decide_not]
  rfl

/-- Settles O31: each payload has the bytes of its kind, which decode to the fields laid out. The offsets of R160 are
the spec's inference, and two of its widths general knowledge (entry 13). -/
theorem configRecords : Obligations.ConfigRecords := by
  unfold Obligations.ConfigRecords
  intro par measRate navRate timeRef c i rates extra
  refine ⟨?rate, ?msg, ?ack, ?nack⟩
  case rate =>
    rw [List.append_assoc, List.append_assoc, decodePayload_rateConfig par (Nat.le_add_left 6 _),
      decodeRate_littleEndian]
  case msg =>
    rw [List.append_assoc, decodePayload_msgEnableConfig par (by simp), decodeMsg_rates]
  case ack => exact decodePayload_ack par (Nat.le_add_left 2 _)
  case nack => exact decodePayload_nack par (Nat.le_add_left 2 _)

/-! ### The flags of a fix record -/

/-- A mask with one bit reads that bit (30_encoding.md R87). -/
theorem flagOf_twoPow (raw : Byte) {k : Nat} (hk : k < 8) : flagOf raw (BitVec.twoPow 8 k) = raw.getLsbD k := by
  have hne : BitVec.twoPow 8 k ≠ 0#8 := fun h => by
    simpa [hk] using congrArg (·.getLsbD k) h
  rw [flagOf, BitVec.and_twoPow]
  cases raw.getLsbD k <;> simp [hne]

/-- A shift by `k` and a mask of `n` bits read the `n` bits from bit `k` up (30_encoding.md R87). -/
theorem toNat_shift_mask (raw : Byte) (k : Nat) {n : Nat} {mask : Byte} (hmask : mask.toNat = 2 ^ n - 1) :
    ((raw >>> k) &&& mask).toNat = raw.toNat / 2 ^ k % 2 ^ n := by
  rw [BitVec.toNat_and, BitVec.toNat_ushiftRight, hmask, Nat.and_two_pow_sub_one_eq_mod, Nat.shiftRight_eq_div_pow]

/-- Settles O32: each flag is read by the mask of its bit (`flagOf_twoPow`), each sub-field by a shift and a mask
(`toNat_shift_mask`). The bit positions are the spec's general knowledge (entry 13). -/
theorem flagBits : Obligations.FlagBits := by
  unfold Obligations.FlagBits
  intro r
  have bit := fun (raw : Byte) (k : Nat) (hk : k < 8) => flagOf_twoPow raw hk
  have hcarrier : r.flags.toNat / 64 % 4 = r.flags.toNat / 64 := by omega
  exact ⟨bit r.valid 0 (by decide), bit r.valid 1 (by decide), bit r.valid 2 (by decide), bit r.valid 3 (by decide),
    bit r.flags 0 (by decide), bit r.flags 1 (by decide), toNat_shift_mask r.flags 2 (n := 3) rfl,
    bit r.flags 5 (by decide), (toNat_shift_mask r.flags 6 (n := 2) rfl).trans hcarrier,
    bit r.flags2 5 (by decide), bit r.flags2 6 (by decide), bit r.flags2 7 (by decide), bit r.flags3 0 (by decide)⟩

/-! ### The scaler -/

/-- A scaled value is its integer times a power of ten, exactly (R171). -/
theorem Scaled.value_eq (v : Scaled) : v.value = v.num * (10 : Rat) ^ (-(v.digits : Int)) := by
  rw [Scaled.value, Nat.cast_pow, Nat.cast_ofNat, zpow_neg, zpow_natCast, div_eq_mul_inv]

/-- The fields of a row of R170 are scaled by its exponent, in its unit. -/
theorem scale_of_row {fs : List FixField} {d : Nat} {u : BaseUnit} (hrow : ∀ f ∈ fs, f.digits = d ∧ f.unit = u)
    (raw : Int) :
    ∀ f ∈ fs, (scale f raw).value = raw * (10 : Rat) ^ (-(d : Int)) ∧ (scale f raw).unit = u := by
  intro f hf
  obtain ⟨rfl, hunit⟩ := hrow f hf
  exact ⟨(scale f raw).value_eq, hunit⟩

/-- Settles O33: row by row of the table (`scale_of_row`), the last with exponent 0. Two of the units are the spec's general
knowledge (entry 13). -/
theorem scalerIsExact : Obligations.ScalerIsExact := by
  unfold Obligations.ScalerIsExact
  intro raw
  refine ⟨?_, ?_, ?_, ?_, ?_, ?_, ?_, ?_, ?calendar⟩
  case calendar =>
    intro f hf
    obtain ⟨hvalue, hunit⟩ := scale_of_row (d := 0) (u := .itself) (by decide) raw f hf
    exact ⟨by simpa using hvalue, hunit⟩
  all_goals exact scale_of_row (by decide) raw

end Sys2Proof.Machine
end

section
/-! PROOF. The framer on one byte, and RX_ERROR (family 43_framer.md, R180 to R189): a received byte is noted, then the
framer takes it by its state and its index. -/

namespace Sys2Proof.Machine

variable {s : State} {b : Byte}

/-! ### The received byte -/

/-- The state a received byte finds: `rx_idle` is cleared in STREAM (45_stream.md R254), and nothing else changes. -/
def State.byteNoted (s : State) : State := { s with stream.rxIdle := s.rxIdleAfterByte }

theorem State.noteByte_eq_byteNoted (s : State) : s.noteByte = s.byteNoted := by
  unfold State.noteByte State.byteNoted State.rxIdleAfterByte
  split <;> rfl

/-- RX_BYTE is the framer's step on a byte that has been noted (43_framer.md R180). -/
theorem exec_rxByte (s : State) (b : Byte) : exec (.rxByte b) s = s.byteNoted.framerByte b :=
  congrArg (State.framerByte b) s.noteByte_eq_byteNoted

/-! ### SEEKING and the envelope -/

/-- Settles O15: in SEEKING the byte is the framer's `seek` (R181). -/
theorem seekByte : Obligations.SeekByte := by
  unfold Obligations.SeekByte
  intro s b hfs
  rw [exec_rxByte, State.framerByte_seeking (s := s.byteNoted) hfs]
  rfl

/-- Settles O16: the index tells the class, the id and the length's low byte apart (R182, R183). -/
theorem envelopeByte : Obligations.EnvelopeByte := by
  unfold Obligations.EnvelopeByte
  intro s b hfs
  rw [exec_rxByte, State.framerByte_envelope (s := s.byteNoted) hfs]
  exact ⟨State.envelope_zero (s := s.byteNoted), State.envelope_one (s := s.byteNoted),
    State.envelope_two (s := s.byteNoted)⟩

/-- A length above `P_MAX_PAYLOAD` is counted and dropped (R184). -/
theorem State.checkLength_of_overlong {len : U16} (h : s.par.maxPayload < len.toNat) :
    s.checkLength len = (State.raise .framingLength { s with cnt.lenErr := s.cnt.lenErr + 1 }).enterSeeking :=
  if_pos h

/-- A length of 0 has no payload to wait for (R184). -/
theorem State.checkLength_of_zero {len : U16} (hmax : len.toNat ≤ s.par.maxPayload) (h : len = 0) :
    s.checkLength len = { s with framer.fs := .checksum, framer.fIdx := 0 } :=
  (if_neg (Nat.not_lt.2 hmax)).trans (if_pos h)

/-- Any other length is that of the payload to come (R184). -/
theorem State.checkLength_of_ne_zero {len : U16} (hmax : len.toNat ≤ s.par.maxPayload) (h : len ≠ 0) :
    s.checkLength len = { s with framer.fs := .payload, framer.fIdx := 0 } :=
  (if_neg (Nat.not_lt.2 hmax)).trans (if_neg h)

/-- Settles O17: the length is stored (`State.storeLength`), then checked, with one lemma per outcome. -/
theorem lengthHighByte : Obligations.LengthHighByte := by
  unfold Obligations.LengthHighByte
  intro s b hfs hidx
  dsimp only
  rw [exec_rxByte, State.framerByte_envelope (s := s.byteNoted) hfs, State.envelope_three (s := s.byteNoted) hidx,
    State.lengthHigh_eq]
  refine ⟨fun hover => ?_, fun hmax hzero => ?_, fun hmax hne => ?_⟩
  · exact congrArg Host.Outcome.next (State.checkLength_of_overlong hover)
  · exact congrArg Host.Outcome.next (State.checkLength_of_zero hmax hzero)
  · exact congrArg Host.Outcome.next (State.checkLength_of_ne_zero hmax hne)

/-! ### The payload -/

/-- After a payload byte the buffer reads otherwise at `f_idx` alone (R185). -/
theorem State.payByte_storeByte (s : State) (b : Byte) (fs : FramerState) (idx : U16) (k : Nat) :
    (s.storeByte b fs idx).payByte k = if k = s.framer.fIdx.toNat then b else s.payByte k :=
  State.payByte_write (s := s) (t := s.storeByte b fs idx) rfl rfl k

/-- Settles O18: the byte is stored at `f_idx` (`State.storeByte`), where alone the buffer then reads otherwise
(`State.payByte_storeByte`), and the last byte leads to CHECKSUM. -/
theorem payloadByte : Obligations.PayloadByte := by
  unfold Obligations.PayloadByte
  intro s b hfs hidx hmax
  have hin : s.framer.fIdx.toNat < s.par.maxPayload := (BitVec.lt_def.1 hidx).trans_le hmax
  dsimp only
  rw [exec_rxByte]
  by_cases hlast : s.framer.fIdx + 1 = s.framer.fLen
  · refine ⟨_, State.framerByte_lastPayload (s := s.byteNoted) hfs hin hlast, s.byteNoted.payByte_storeByte b _ _, ?_⟩
    rw [if_pos hlast, if_pos hlast]
    rfl
  · refine ⟨_, State.framerByte_nextPayload (s := s.byteNoted) hfs hin hlast, s.byteNoted.payByte_storeByte b _ _, ?_⟩
    rw [if_neg hlast, if_neg hlast]
    rfl

/-! ### The checksum bytes -/

/-- The second checksum byte of a frame that validates hands off the payload that has arrived (43_framer.md R187). -/
theorem State.framerByte_goodChecksum {p : List Byte} (hfs : s.framer.fs = .checksum)
    (hidx : s.framer.fIdx = 1) (hmax : s.framer.fLen.toNat ≤ s.par.maxPayload)
    (hgood : s.framer.fCka = s.framer.runA ∧ b = s.framer.runB) (hp : s.payload s.framer.fLen.toNat = p) :
    s.framerByte b = .next (s.acceptFrame
      { cls := s.framer.fClass, id := s.framer.fId, length := s.framer.fLen, payload := p,
        checksumA := s.framer.fCka, checksumB := b }
      (decodePayload s.par s.framer.fClass s.framer.fId p)) := by
  subst hp
  rw [State.framerByte_checksum hfs, State.checksumByte_one hidx, State.checksumSecond, if_pos hmax]
  exact if_pos hgood

/-- The second checksum byte of a frame whose pair is not the running one drops the frame (R187). -/
theorem State.framerByte_badChecksum (hfs : s.framer.fs = .checksum) (hidx : s.framer.fIdx = 1)
    (hmax : s.framer.fLen.toNat ≤ s.par.maxPayload)
    (hbad : ¬ (s.framer.fCka = s.framer.runA ∧ b = s.framer.runB)) :
    s.framerByte b = .next (s.rejectFrame b) := by
  rw [State.framerByte_checksum hfs, State.checksumByte_one hidx, State.checksumSecond, if_pos hmax]
  exact if_neg hbad

/-- Settles O19: the first byte is stored (R186), and the second drops a frame that does not validate
(`State.framerByte_badChecksum`). -/
theorem checksumBytes : Obligations.ChecksumBytes := by
  unfold Obligations.ChecksumBytes
  intro s b hfs
  rw [exec_rxByte]
  refine ⟨fun hidx => ?first, fun hidx hmax hbad => ?second⟩
  case first =>
    exact (State.framerByte_checksum (s := s.byteNoted) hfs).trans (State.checksumByte_zero (s := s.byteNoted) hidx)
  case second => exact State.framerByte_badChecksum (s := s.byteNoted) hfs hidx hmax hbad

/-! ### The transport -/

/-- The state after a transport failure, before the stream's stop, written out (R189): bit 7 is set, and bit 2 with it
when a frame was in progress. -/
theorem State.transportFailed_eq (s : State) : s.transportFailed = { s with
    framer := { s.framer with fs := .seeking, fIdx := 0, winValid := false }
    cnt := { s.cnt with
      rxErr := s.cnt.rxErr + 1
      abort := if s.framer.fs = .seeking then s.cnt.abort else s.cnt.abort + 1 }
    errSticky := s.errSticky ||| (if s.framer.fs = .seeking then 0x0080 else 0x0084)
    out := s.out ++ [.error (.transportError s.framer.fs)] } := by
  unfold State.transportFailed State.abortFrame
  split
  · rfl
  · simp only [State.raise, State.enterSeeking, State.emit, BitVec.or_assoc]
    rfl

/-- The stream's stop raises the cause that the failure has raised already, so it sets no bit more (45_stream.md
R256). -/
theorem State.stopStream_transportFailed (s : State) : s.transportFailed.stopStream .transportError =
    { s.transportFailed with
      mode := .stopped
      stream.stopReason := some .transportError
      out := s.transportFailed.out ++ [.streamStopped .transportError] } := by
  have hbit : s.transportFailed.errSticky ||| Cause.transportError.bit = s.transportFailed.errSticky := by
    rw [State.transportFailed_errSticky, BitVec.or_assoc, BitVec.or_self]
  simp only [State.stopStream, State.raise, State.emit, StopReason.cause, hbit]

/-- Settles O26: the failure is reported in every mode (`State.transportFailed_eq`), and in STREAM it stops the stream
(`State.stopStream_transportFailed`). -/
theorem transportError : Obligations.TransportError := by
  unfold Obligations.TransportError
  intro s
  change execRxError s = _
  unfold execRxError
  by_cases hm : s.mode = .stream
  · simp only [if_pos hm]
    rw [State.stopStream_transportFailed, State.transportFailed_eq, List.append_assoc]
    rfl
  · simp only [if_neg hm]
    rw [State.transportFailed_eq]

end Sys2Proof.Machine
end

section
/-! PROOF. The output of a step (60_exceptions.md R273): what the hand-off of a frame emits, by the mode and the
message, and from it the list of every event. -/

namespace Sys2Proof.Machine

variable {s t : State}

/-! ### Routing, by the mode -/

/-- In IDLE and STOPPED nothing is routed (45_stream.md R250, R260). -/
theorem State.route_outside (h : s.mode = .idle ∨ s.mode = .stopped) (m : DecodedMessage) : s.route m = s := by
  unfold State.route
  rcases h with h | h <;> rw [h]

/-- In STARTUP the sequencer takes the message (R250). -/
theorem State.route_startup (h : s.mode = .startup) (m : DecodedMessage) : s.route m = s.seqOnMsg m := by
  unfold State.route
  rw [h]

/-- In STREAM a message other than a fix record goes nowhere (R250, R258). -/
theorem State.route_stream_of_not_fix (h : s.mode = .stream) {m : DecodedMessage} (hm : ∀ r, m ≠ .fixRecord r) :
    s.route m = s := by
  unfold State.route
  rw [h]
  cases m with
  | fixRecord r => exact absurd rfl (hm r)
  | _ => rfl

/-! ### The sequencer's output -/

/-- What answers the current command is the sequencer's affair (44_sequencer.md R214). -/
theorem State.answered_congr (h : t.seq = s.seq) (m : DecodedMessage) : t.answered m = s.answered m := by
  unfold State.answered
  rw [h]

/-- A message that does not answer the current command emits nothing (44_sequencer.md R215, R216, R223). -/
theorem State.seqOnMsg_out_of_unanswered {m : DecodedMessage} (h : s.answered m = false) :
    (s.seqOnMsg m).out = s.out := by
  rcases s.seqOnMsg_cases m with e | ⟨a, rfl, hkey, _⟩ | ⟨a, rfl, hkey, _⟩ | ⟨_, _, _, e⟩ | ⟨_, _, _, _, _, e⟩
  · rw [e]
  · exact absurd hkey (beq_eq_false_iff_ne.1 h)
  · exact absurd hkey (beq_eq_false_iff_ne.1 h)
  · rw [e]
  · rw [e]

/-- The check of a read-back emits at most one warning, of its own step (44_sequencer.md R226, R227). -/
theorem State.checkReadback_output (s : State) :
    ∃ w, s.checkReadback.out = s.out ++ w ∧ WarningOutput s.seq.step w := by
  rcases s.checkReadback_cases with e | ⟨k, b, hstep, e⟩ | ⟨k, b, hstep, e⟩
  · exact ⟨[], by rw [e, List.append_nil], .nothing _⟩
  · exact ⟨_, e, hstep ▸ .rate k b⟩
  · exact ⟨_, e, hstep ▸ .msg k b⟩

/-- What an acknowledged step emits (44_sequencer.md R214, R217). -/
theorem State.stepOk_output (hmode : s.mode = .startup) {a : AckEcho}
    (ha : s.answered (.ack a) = true) : ∃ o, s.stepOk.out = s.out ++ o ∧ MessageOutput s (.ack a) o := by
  obtain ⟨w, hw, hwarn⟩ := s.checkReadback_output
  rcases s.stepOk_cases with ⟨n, hn, e⟩ | ⟨hn, e⟩
  · exact ⟨_, by simp [e, hw], .advance hmode a rfl ha n hn w hwarn⟩
  · exact ⟨_, by simp [e, hw], .complete hmode a rfl ha hn w hwarn⟩

/-- What a failed step emits: one list for a retry, one for the end of the run (44_sequencer.md R220, R222). -/
theorem State.stepFailed_output (s : State) (r : FailReason) :
    (s.seq.retries = 0 ∧ (s.stepFailed r).out = s.out ++
      [.seqRetry s.seq.step r 1, .txFrame (commandFrame s.par (stepCommand s.seq.preset s.seq.step))]) ∨
    (s.seq.retries ≠ 0 ∧ (s.stepFailed r).out = s.out ++ [.seqFailed s.seq.step r]) := by
  rcases s.stepFailed_cases r with ⟨hr, e⟩ | ⟨hr, e⟩
  · have hzero : s.seq.retries = 0 := by omega
    exact .inl ⟨hzero, by simp [e, hzero]⟩
  · exact .inr ⟨by omega, by rw [e]; rfl⟩

/-- What a message emits while the sequencer runs (44_sequencer.md R214 to R223). -/
theorem State.seqOnMsg_output (hmode : s.mode = .startup) (m : DecodedMessage) :
    ∃ o, (s.seqOnMsg m).out = s.out ++ o ∧ MessageOutput s m o := by
  cases hans : s.answered m with
  | false => exact ⟨[], by rw [s.seqOnMsg_out_of_unanswered hans, List.append_nil], .unanswered hmode hans⟩
  | true =>
    cases m with
    | ack a =>
      rw [State.seqOnMsg, if_pos (eq_of_beq hans)]
      exact s.stepOk_output hmode hans
    | nack a =>
      rw [State.seqOnMsg, if_pos (eq_of_beq hans)]
      rcases s.stepFailed_output .nackReceived with ⟨hr, e⟩ | ⟨hr, e⟩
      · exact ⟨_, e, .retry hmode a rfl hans hr⟩
      · exact ⟨_, e, .failed hmode a rfl hans hr⟩
    | fixRecord | rateConfig | msgEnableConfig | unrecognized => cases hans

/-! ### The hand-off's output -/

/-- What routing a message emits (R273). -/
theorem State.route_output (s : State) (m : DecodedMessage) :
    ∃ o, (s.route m).out = s.out ++ o ∧ MessageOutput s m o := by
  have outside : s.mode = .idle ∨ s.mode = .stopped → ∃ o, (s.route m).out = s.out ++ o ∧ MessageOutput s m o :=
    fun h => ⟨[], by rw [State.route_outside h, List.append_nil], .outside h⟩
  cases hmode : s.mode with
  | idle => exact outside (.inl hmode)
  | stopped => exact outside (.inr hmode)
  | startup =>
    rw [State.route_startup hmode]
    exact State.seqOnMsg_output hmode m
  | stream =>
    by_cases hm : ∃ r, m = .fixRecord r
    · obtain ⟨r, rfl⟩ := hm
      exact ⟨_, by rw [State.route_fixRecord hmode]; rfl, .publish hmode r rfl⟩
    · have hm : ∀ r, m ≠ .fixRecord r := fun r e => hm ⟨r, e⟩
      exact ⟨[], by rw [State.route_stream_of_not_fix hmode hm, List.append_nil], .notFix hmode hm⟩

/-- The lists of R273 depend on the mode, the sequencer, the parameters and the sequence number alone. -/
theorem MessageOutput.congr {m : DecodedMessage} {o : List OutEvent} (h : MessageOutput s m o)
    (hmode : t.mode = s.mode) (hseq : t.seq = s.seq) (hpar : t.par = s.par)
    (hfix : t.stream.fixSeq = s.stream.fixSeq) : MessageOutput t m o := by
  have hans := (State.answered_congr hseq m).symm
  cases h with
  | outside h => exact .outside (hmode ▸ h)
  | notFix h hm => exact .notFix (hmode ▸ h) hm
  | publish h r hm => exact hfix ▸ .publish (hmode ▸ h) r hm
  | unanswered h hm => exact .unanswered (hmode ▸ h) (hans ▸ hm)
  | advance h a hm ha n hn w hw =>
    rw [← hseq] at hn hw ⊢
    rw [← hpar]
    exact .advance (hmode ▸ h) a hm (hans ▸ ha) n hn w hw
  | complete h a hm ha hn w hw =>
    rw [← hseq] at hn hw ⊢
    exact .complete (hmode ▸ h) a hm (hans ▸ ha) hn w hw
  | retry h a hm ha hr =>
    rw [← hseq] at hr ⊢
    rw [← hpar]
    exact .retry (hmode ▸ h) a hm (hans ▸ ha) hr
  | failed h a hm ha hr =>
    rw [← hseq] at hr ⊢
    exact .failed (hmode ▸ h) a hm (hans ▸ ha) hr

/-- The hand-off of a frame emits FRAME_OK, MSG and what routing its message emits (43_framer.md R187). -/
theorem State.acceptFrame_output (s : State) (f : RawFrame) (m : DecodedMessage) :
    ∃ o, (s.acceptFrame f m).out = s.out ++ .frameOk f :: .msg m :: o ∧ MessageOutput s m o := by
  obtain ⟨o, ho, hm⟩ := (((s.recordFrame f m).emit (.frameOk f)).emit (.msg m)).route_output m
  exact ⟨o, by simp [State.acceptFrame, ho], hm.congr rfl rfl rfl rfl⟩

/-! ### The events -/

/-- An event that is not legal is refused, with the word it is encoded as (R278, R279). -/
theorem exec_of_not_legal {i : Instr} (h : s.legal i = false) :
    ∃ w, encode s.par i = .event w ∧ exec i s = .next (s.refuse w) := by
  cases i with
  | startSeq p v =>
    refine ⟨_, rfl, if_neg ?_⟩
    rw [State.seqMayStart_eq]
    exact ne_true_of_eq_false h
  | startStream =>
    refine ⟨_, rfl, if_neg ?_⟩
    rw [State.streamMayStart_eq]
    exact ne_true_of_eq_false h
  | illegalOp0 | illegalOpHigh | illegalRxByte | illegalRxError | illegalTick | illegalStartSeq
  | illegalStartStream | illegalCancel | illegalReset => exact ⟨_, rfl, rfl⟩
  | _ => cases h

/-- What the step of an event appends to the output is one of its lists (R273). -/
def State.Emits (s t : State) (i : Instr) : Prop := ∃ o, t.out = s.out ++ o ∧ StepOutput s i o

theorem State.Emits.of_out_eq {i : Instr} (hout : t.out = s.out) (h : StepOutput s i []) : s.Emits t i :=
  ⟨[], by rw [hout, List.append_nil], h⟩

theorem framerByte_emits {b : Byte} (h : s.noteByte.framerByte b = .next t) : s.Emits t (.rxByte b) := by
  rcases s.noteByte.framerByte_effect h with e | e | ⟨_, f, m, rfl⟩ | ⟨_, rfl⟩
  · exact .of_out_eq (by rw [e, ← s.noteByte_out]) (.otherByte b)
  · exact .of_out_eq (by rw [e, ← s.noteByte_out]) (.otherByte b)
  · obtain ⟨o, ho, hm⟩ := s.noteByte.acceptFrame_output f m
    exact ⟨_, by rw [ho, s.noteByte_out], .validFrame b f m o (hm.congr (by simp) (by simp) (by simp) (by simp))⟩
  · exact ⟨_, by rw [State.rejectFrame_out, s.noteByte_out], .failedFrame b _ _⟩

theorem execRxError_emits (h : execRxError s = .next t) : s.Emits t .rxError := by
  rcases execRxError_cases h with ⟨hmode, rfl⟩ | ⟨hmode, rfl⟩
  · exact ⟨_, by simp, .readFailedInStream hmode⟩
  · exact ⟨_, s.transportFailed_out, .readFailed hmode⟩

theorem execTick_emits (h : execTick s = .next t) : s.Emits t .tick := by
  rcases execTick_cases h with ⟨_, rfl⟩ | ⟨_, _, rfl⟩ | ⟨hmode, _, rfl⟩ | ⟨_, _, rfl⟩ | ⟨hmode, _, rfl⟩
  · exact .of_out_eq rfl .otherTick
  · exact .of_out_eq rfl .otherTick
  · rcases State.stepFailed_output { s with seq.wait := s.seq.wait + 1 } .ackTimeout with ⟨hr, e⟩ | ⟨hr, e⟩
    · exact ⟨_, e, .timeoutRetry hmode hr⟩
    · exact ⟨_, e, .timeoutFailed hmode hr⟩
  · exact .of_out_eq rfl .otherTick
  · exact ⟨_, rfl, .streamTimeout hmode⟩

theorem execCancel_emits (h : execCancel s = .next t) : s.Emits t .cancel := by
  rcases execCancel_cases h with ⟨hmode, rfl⟩ | ⟨hmode, rfl⟩ | ⟨hmode, rfl⟩
  · exact .of_out_eq rfl (.nothingCancelled hmode)
  · exact ⟨_, rfl, .sequenceCancelled hmode⟩
  · exact ⟨_, rfl, .streamCancelled hmode⟩

/-- Settles O53: event by event (`exec_word_cases`), each with its own lists. -/
theorem outputOrders : Obligations.OutputOrders := by
  unfold Obligations.OutputOrders
  intro w s t h
  change s.Emits t (decodeWord w)
  rcases exec_word_cases h with ⟨b, hi, h⟩ | ⟨_, hlegal, _, _⟩ | ⟨hi, h⟩ | ⟨hi, h⟩ | ⟨p, v, hi, hmode, rfl⟩ |
    ⟨hi, hmode, _, rfl⟩ | ⟨hi, h⟩ | ⟨hi, h⟩
  case inr.inl =>
    obtain ⟨w', hw', e⟩ := exec_of_not_legal hlegal
    cases e.symm.trans h
    exact ⟨_, rfl, .refused _ w' hw' hlegal⟩
  all_goals rw [hi]
  · exact framerByte_emits h
  · exact execRxError_emits h
  · exact execTick_emits h
  · exact ⟨_, rfl, .started hmode p v⟩
  · exact ⟨_, rfl, .streamStarted hmode⟩
  · exact execCancel_emits h
  · cases h
    exact .of_out_eq rfl .reset

end Sys2Proof.Machine
end

section
/-! PROOF. Runs of frames and noise from SEEKING (43_framer.md R191 to R194; 70_reset_and_hazards.md R312): what a valid
frame, a frame with a wrong checksum and noise without a sync pair each emit, and that such runs follow one another. -/

namespace Sys2Proof.Machine

variable {s t u : State}

/-! ### Runs that end in SEEKING -/

/-- A run's words and those behind them run one after the other (70_reset_and_hazards.md R305). -/
theorem runEvents_append {ws : List U16} (h : runEvents ws s = .next t) (vs : List U16) :
    runEvents (ws ++ vs) s = runEvents vs t := by
  induction ws generalizing s with
  | nil =>
    cases h
    rfl
  | cons w ws ih =>
    rw [runEvents] at h
    rw [List.cons_append, runEvents]
    cases hexec : exec (decodeWord w) s with
    | next s' =>
      rw [hexec] at h
      exact ih h
    | fault r => simp [hexec] at h
    | refused r => simp [hexec] at h

/-- The words `ws` lead from `s` to `t`, in SEEKING, and emit `o`. -/
structure RunsToSeeking (ws : List U16) (s t : State) (o : List OutEvent) : Prop where
  run : runEvents ws s = .next t
  seeking : t.framer.fs = .seeking
  par : t.par = s.par
  out : t.out = s.out ++ o

theorem RunsToSeeking.append {ws vs : List U16} {o q : List OutEvent} (h : RunsToSeeking ws s t o)
    (h' : RunsToSeeking vs t u q) : RunsToSeeking (ws ++ vs) s u (o ++ q) where
  run := (runEvents_append h.run vs).trans h'.run
  seeking := h'.seeking
  par := h'.par.trans h.par
  out := by rw [h'.out, h.out, List.append_assoc]

/-! ### Noise -/

/-- The bytes `bs` complete no sync pattern, neither among themselves nor with the byte in the window
(43_framer.md R181, R193). -/
def State.NoSyncIn (s : State) (bs : List Byte) : Prop :=
  noSyncPair (if s.framer.winValid then s.framer.winByte :: bs else bs) = true

theorem noSyncPair_tail {a : Byte} {bs : List Byte} (h : noSyncPair (a :: bs) = true) : noSyncPair bs = true := by
  cases bs with
  | nil => rfl
  | cons b bs =>
    rw [noSyncPair, Bool.and_eq_true] at h
    exact h.2

/-- A byte that completes no sync pattern enters the window (43_framer.md R181). -/
theorem State.NoSyncIn.seek_eq {b : Byte} {bs : List Byte} (h : s.NoSyncIn (b :: bs)) :
    s.seek b = { s with framer.winByte := b, framer.winValid := true } := by
  refine if_neg ?_
  rintro ⟨hvalid, hbyte, rfl⟩
  rw [State.NoSyncIn, if_pos hvalid, hbyte] at h
  cases h

/-- The bytes behind the one that entered the window complete no sync pattern with it. -/
theorem State.NoSyncIn.seek {b : Byte} {bs : List Byte} (h : s.NoSyncIn (b :: bs)) : (s.seek b).NoSyncIn bs := by
  rw [h.seek_eq]
  change noSyncPair (b :: bs) = true
  unfold State.NoSyncIn at h
  split at h
  · exact noSyncPair_tail h
  · exact h

/-- Noise without a sync pattern, whatever follows it, emits nothing and leaves the framer in SEEKING (R193). -/
theorem exists_runsToSeeking_noise {noise : List Byte} (rest : List Byte) (hfs : s.framer.fs = .seeking)
    (h : s.NoSyncIn (noise ++ rest)) : ∃ t, RunsToSeeking (rxBytesWords noise) s t [] := by
  induction noise generalizing s with
  | nil => exact ⟨s, rfl, hfs, rfl, (List.append_nil _).symm⟩
  | cons b bs ih =>
    have h : s.noteByte.NoSyncIn (b :: (bs ++ rest)) := by
      rw [State.NoSyncIn, State.noteByte_framer]
      exact h
    have hseek := h.seek_eq
    have hseeking : s.noteByte.framer.fs = .seeking := s.noteByte_framer.symm ▸ hfs
    obtain ⟨t, hrun⟩ := ih (s := s.noteByte.seek b) (by rw [hseek]; exact hseeking) h.seek
    refine ⟨t, ?run, hrun.seeking, ?par, ?out⟩
    case run => rw [runEvents_rxBytesWords_cons bs (State.framerByte_seeking hseeking), hrun.run]
    case par => rw [hrun.par, hseek, ← s.noteByte_par]
    case out => rw [hrun.out, hseek, ← s.noteByte_out]

/-! ### A valid frame -/

/-- The output events `o` report neither a valid frame nor a checksum error. -/
def ReportNoFrame (o : List OutEvent) : Prop :=
  o.filter OutEvent.isFrameOk = [] ∧ o.filter OutEvent.isChecksumError = []

theorem ReportNoFrame.append {o q : List OutEvent} (h : ReportNoFrame o) (h' : ReportNoFrame q) :
    ReportNoFrame (o ++ q) :=
  ⟨by rw [List.filter_append, h.1, h'.1]; rfl, by rw [List.filter_append, h.2, h'.2]; rfl⟩

theorem WarningOutput.reportNoFrame {n : SeqStep} {w : List OutEvent} (h : WarningOutput n w) : ReportNoFrame w := by
  cases h with
  | nothing | rate | msg => exact ⟨rfl, rfl⟩

/-- What the hand-off emits behind FRAME_OK and MSG reports no frame (R273). -/
theorem MessageOutput.reportNoFrame {m : DecodedMessage} {o : List OutEvent} (h : MessageOutput s m o) :
    ReportNoFrame o := by
  cases h with
  | advance _ _ _ _ _ _ w hw => exact hw.reportNoFrame.append ⟨rfl, rfl⟩
  | complete _ _ _ _ _ w hw => exact hw.reportNoFrame.append ⟨rfl, rfl⟩
  | outside | notFix | publish | unanswered | retry | failed => exact ⟨rfl, rfl⟩

/-- A valid frame emits one FRAME_OK, its own, and no checksum error (43_framer.md R187). -/
theorem exists_runsToSeeking_frame (hpar : s.par.wf = true) (hfs : s.framer.fs = .seeking) (c i : Byte)
    {p : List Byte} (hmax : p.length ≤ s.par.maxPayload) :
    ∃ t o, RunsToSeeking (rxFrameWords c i p) s t o ∧
      o.filter OutEvent.isFrameOk = [.frameOk (rawFrame c i p)] ∧ o.filter OutEvent.isChecksumError = [] := by
  obtain ⟨o, hout, hmsg⟩ := (s.noteByte.loadFrame c i p (rawFrame c i p).checksumA).acceptFrame_output
    (rawFrame c i p) (decodePayload s.par c i p)
  obtain ⟨hframes, herrors⟩ := hmsg.reportNoFrame
  refine ⟨_, _, ⟨?run, ?seeking, ?par, hout.trans (congrArg (· ++ _) s.noteByte_out)⟩, ?frames, herrors⟩
  case run => rw [wholeFrameIsMessage s c i p hpar hfs hmax, exec_classify, State.receiveFrame_eq hmax]
  case seeking => rw [State.acceptFrame_framer]
  case par => rw [State.acceptFrame_par, State.loadFrame_par, State.noteByte_par]
  case frames => exact congrArg (_ :: ·) hframes

/-! ### A frame with a wrong checksum -/

/-- A frame with a wrong checksum pair emits one checksum error and is dropped (43_framer.md R187, R188). -/
theorem exists_runsToSeeking_corrupted (hpar : s.par.wf = true) (hfs : s.framer.fs = .seeking) (c i : Byte)
    {p : List Byte} (hmax : p.length ≤ s.par.maxPayload) {a b : Byte}
    (hbad : compute (frameBody c i (payloadLength p) p) ≠ (a, b)) :
    ∃ t, RunsToSeeking (rxBytesWords ([sync1, sync2] ++ frameBody c i (payloadLength p) p ++ [a, b])) s t
        [.error (.checksum (a, b) (compute (frameBody c i (payloadLength p) p)))] ∧
      t.framer.winValid = false := by
  have hlen : (payloadLength p).toNat = p.length :=
    payloadLength_toNat (hmax.trans (Params.maxPayload_le_of_wf hpar))
  have hfits : (payloadLength p).toNat ≤ s.noteByte.par.maxPayload := by rw [hlen, State.noteByte_par]; exact hmax
  have hnot : ¬ (a = (compute (frameBody c i (payloadLength p) p)).1 ∧
      b = (compute (frameBody c i (payloadLength p) p)).2) :=
    fun ⟨ha, hb⟩ => hbad (Prod.ext ha.symm hb.symm)
  refine ⟨(s.noteByte.loadFrame c i p a).rejectFrame b, ⟨?run, rfl, ?par, ?out⟩, rfl⟩
  case run =>
    calc runEvents (rxBytesWords ([sync1, sync2] ++ frameBody c i (payloadLength p) p ++ [a, b])) s
      _ = runEvents (rxBytesWords [a, b]) (s.noteByte.loadBody c i p) := runEvents_body hfs c i [a, b] hlen hmax
      _ = runEvents (rxBytesWords [b]) (s.noteByte.loadFrame c i p a) :=
        State.Noted.runEvents_cons (s := s.noteByte.loadBody c i p) s.noted_noteByte _
          ((State.framerByte_checksum rfl).trans (State.checksumByte_zero rfl))
      _ = .next ((s.noteByte.loadFrame c i p a).rejectFrame b) :=
        State.Noted.runEvents_cons (s := s.noteByte.loadFrame c i p a) s.noted_noteByte []
          (State.framerByte_badChecksum rfl rfl hfits hnot)
  case par => rw [State.rejectFrame_par, State.loadFrame_par, State.noteByte_par]
  case out =>
    rw [State.rejectFrame_out, State.loadFrame_out, State.noteByte_out]
    rfl

/-! ### The statements -/

/-- Settles O23: the noise emits nothing (`exists_runsToSeeking_noise`, by induction on it), and leaves the framer where
the frame is received (`exists_runsToSeeking_frame`). -/
theorem resynchronization : Obligations.Resynchronization := by
  unfold Obligations.Resynchronization
  intro s noise c i p hpar hfs hwin hmax hnoise
  have hquiet : s.NoSyncIn (noise ++ [0xB5]) := by
    rw [State.NoSyncIn, hwin]
    exact hnoise
  obtain ⟨t, hbefore⟩ := exists_runsToSeeking_noise [0xB5] hfs hquiet
  obtain ⟨u, o, hframe, hok, _⟩ := exists_runsToSeeking_frame (hbefore.par ▸ hpar) hbefore.seeking c i
    (hbefore.par.symm ▸ hmax)
  have hrun := hbefore.append hframe
  exact ⟨u, o, hrun.run, hrun.seeking, hrun.out, hok⟩

/-- Settles O24: the three frames follow one another, the first and the third valid (`exists_runsToSeeking_frame`), the
second dropped (`exists_runsToSeeking_corrupted`). -/
theorem corruptionRecovery : Obligations.CorruptionRecovery := by
  unfold Obligations.CorruptionRecovery
  intro s c1 i1 c2 i2 c3 i3 a b p1 p2 p3 hpar hfs hmax1 hmax2 hmax3
  dsimp only
  intro hbad
  obtain ⟨t1, o1, hrun1, hok1, herr1⟩ := exists_runsToSeeking_frame hpar hfs c1 i1 hmax1
  obtain ⟨t2, hrun2, _⟩ := exists_runsToSeeking_corrupted (hrun1.par ▸ hpar) hrun1.seeking c2 i2
    (hrun1.par.symm ▸ hmax2) hbad
  have hrun12 := hrun1.append hrun2
  obtain ⟨t3, o3, hrun3, hok3, herr3⟩ := exists_runsToSeeking_frame (hrun12.par ▸ hpar) hrun12.seeking c3 i3
    (hrun12.par.symm ▸ hmax3)
  have hrun := hrun12.append hrun3
  refine ⟨t3, _, hrun.run, hrun.seeking, hrun.out, ?frames, ?errors⟩
  case frames =>
    rw [List.filter_append, List.filter_append, hok1, hok3]
    rfl
  case errors =>
    rw [List.filter_append, List.filter_append, herr1, herr3]
    rfl

/-- Settles O25: the noise begins like a frame of four payload bytes, which hide the real frame's sync pattern and end
in a checksum that fails (`exists_runsToSeeking_corrupted`); the rest is noise again. -/
theorem noiseCanHideFrame : Obligations.NoiseCanHideFrame := by
  unfold Obligations.NoiseCanHideFrame
  intro s hpar hfs
  have hmax : [0xB5, 0x62, 0x05, 0x01].length ≤ s.par.maxPayload := by
    simp only [Params.wf, Bool.and_eq_true, decide_eq_true_eq] at hpar
    simp only [List.length_cons, List.length_nil]
    omega
  obtain ⟨t, hfalse, hwin⟩ := exists_runsToSeeking_corrupted (a := 0x02) (b := 0x00) hpar hfs 0x00 0x00
    (p := [0xB5, 0x62, 0x05, 0x01]) hmax (by decide)
  have hquiet : t.NoSyncIn ([0x06, 0x00, 0x0E, 0x37] ++ []) := by
    rw [State.NoSyncIn, hwin]
    rfl
  obtain ⟨u, hrest⟩ := exists_runsToSeeking_noise [] hfalse.seeking hquiet
  have hrun := hfalse.append hrest
  exact ⟨u, hrun.run, hrun.seeking, _, hrun.out⟩

end Sys2Proof.Machine
end

section
/-! PROOF. Whole messages (43_framer.md R184, R187; 44_sequencer.md R223; 45_stream.md R258, R260): the last byte of a
valid frame is its message, an over-long envelope is dropped, and what a message leaves where nothing is routed. -/

namespace Sys2Proof.Machine

variable {s : State}

/-! ### The last byte of a valid frame -/

/-- In CHECKSUM every byte of the payload has been written (10_state.md R26). -/
theorem State.ChecksumInv.read?_payload (h : s.ChecksumInv) (hfs : s.framer.fs = .checksum) {k : Nat}
    (hk : k < s.framer.fLen.toNat) : s.framer.fPay.read? k = some (s.payByte k) := by
  have harrived : s.payloadArrived = s.framer.fLen.toNat := by simp only [State.payloadArrived, hfs]
  obtain ⟨b, hb⟩ := Option.isSome_iff_exists.1 (h.written k (harrived.symm ▸ hk))
  rw [State.payByte, hb]
  rfl

/-- The length field of the payload that has arrived is the frame's. -/
theorem State.payloadLength_payload (s : State) : payloadLength (s.payload s.framer.fLen.toNat) = s.framer.fLen := by
  rw [payloadLength, State.payload_length, BitVec.ofNat_toNat, BitVec.setWidth_eq]

/-- In CHECKSUM the two running checksum bytes are those of the valid frame (40_checksum.md R112). -/
theorem State.ChecksumInv.rawFrame_checksum (h : s.ChecksumInv) (hfs : s.framer.fs = .checksum) :
    (rawFrame s.framer.fClass s.framer.fId (s.payload s.framer.fLen.toNat)).checksumA = s.framer.runA ∧
    (rawFrame s.framer.fClass s.framer.fId (s.payload s.framer.fLen.toNat)).checksumB = s.framer.runB := by
  have hrun := h.running (by simp [hfs])
  rw [State.bytesSoFar_checksum hfs] at hrun
  simp only [rawFrame, State.payloadLength_payload, ← hrun]
  exact ⟨trivial, trivial⟩

/-- Once `checksumA` has arrived the framer stands as receiving the whole frame from SEEKING leaves it there
(43_framer.md R181 to R186). -/
theorem State.loadFrame_payload (h : s.FramerInv) (hck : s.ChecksumInv) (hfs : s.framer.fs = .checksum)
    (hidx : s.framer.fIdx = 1) :
    s.loadFrame s.framer.fClass s.framer.fId (s.payload s.framer.fLen.toNat) s.framer.fCka = s := by
  have hactive : s.framer.fs ≠ .seeking := by simp [hfs]
  obtain ⟨hvalid, hbyte⟩ := h.window hactive
  have hrun := hck.running hactive
  rw [State.bytesSoFar_checksum hfs] at hrun
  have hpay : s.framer.fPay.writeList 0 (s.payload s.framer.fLen.toNat) = s.framer.fPay := by
    refine Memory.writeList_same h.payCanonical fun k hk => ?_
    rw [State.payload_length] at hk
    simp [hck.read?_payload hfs hk, State.payload]
  simp only [State.loadFrame, State.payloadLength_payload, hpay, ← hrun, ← hfs, ← hidx, ← hvalid, ← hbyte]

/-- Settles O20: the framer holds the frame as receiving its message does (`State.loadFrame_payload`), so both hand off
the same frame and the same message. That a message is an instruction of its own is the model's reading (entries 1 and
18). -/
theorem lastByteHandsOffMessage : Obligations.LastByteHandsOffMessage := by
  unfold Obligations.LastByteHandsOffMessage
  intro s h hck hfs hidx ha
  let c := s.framer.fClass
  let i := s.framer.fId
  let p := s.payload s.framer.fLen.toNat
  have hmax : p.length ≤ s.par.maxPayload := by
    rw [State.payload_length]
    exact (h.checksum hfs).2
  have hlen : (payloadLength p).toNat = p.length := by rw [State.payloadLength_payload, State.payload_length]
  obtain ⟨hA, hB⟩ := hck.rawFrame_checksum hfs
  have hload : s.byteNoted.loadFrame c i p s.framer.fCka = s.byteNoted :=
    State.loadFrame_payload (s := s.byteNoted) (h.congr rfl rfl) (hck.congr rfl rfl) hfs hidx
  calc exec (.rxByte s.framer.runB) s
    _ = s.byteNoted.checksumSecond s.framer.runB :=
      (exec_rxByte ..).trans ((State.framerByte_checksum (s := s.byteNoted) hfs).trans
        (State.checksumByte_one (s := s.byteNoted) hidx))
    _ = (s.byteNoted.loadFrame c i p (rawFrame c i p).checksumA).checksumSecond (rawFrame c i p).checksumB := by
      rw [hA, hB, ← ha, hload]
    _ = s.receiveFrame c i p := by
      rw [State.checksumSecond_loadFrame (s := s.byteNoted) c i hlen hmax, State.receiveFrame_eq hmax,
        State.noteByte_eq_byteNoted]
      rfl
    _ = exec (classify c i p) s := (exec_classify c i p s).symm

/-! ### An over-long envelope -/

/-- Settles O22: the six bytes fill the envelope (`runEvents_envelope`) and the length byte ends it, which is the
message; the length check drops it (`State.checkLength_of_overlong`). That the message is an instruction of its own is
the model's reading (entries 1 and 18). -/
theorem overlongEnvelopeIsDropped : Obligations.OverlongEnvelopeIsDropped := by
  unfold Obligations.OverlongEnvelopeIsDropped
  intro s c i len
  refine ⟨fun hfs _ => ?bytes, fun hover => ?dropped⟩
  case bytes =>
    calc runEvents (rxBytesWords [0xB5, 0x62, c, i, lowByte len, highByte len]) s
      _ = runEvents (rxBytesWords [highByte len]) (s.noteByte.loadEnvelope c i (lowByte len)) :=
        runEvents_envelope hfs c i _ _
      _ = .next ((s.noteByte.loadEnvelope c i (lowByte len)).lengthHigh (highByte len)) :=
        State.Noted.runEvents_cons (s := s.noteByte.loadEnvelope c i (lowByte len)) s.noted_noteByte []
          (State.framerByte_loadEnvelope ..)
  case dropped =>
    have hfull : (s.byteNoted.loadEnvelope c i (lowByte len)).fullLength (highByte len) = len :=
      lengthField_lowByte_highByte len
    change Host.Outcome.next ((s.noteByte.loadEnvelope c i (lowByte len)).lengthHigh (highByte len)) = _
    rw [State.noteByte_eq_byteNoted, State.lengthHigh_eq, State.storeLength, hfull]
    exact congrArg Host.Outcome.next (State.checkLength_of_overlong hover)

/-! ### A message that is not routed -/

/-- A message that its row describes, and that changes nothing when it is routed, leaves the sequencer, the mode and the
sticky bits as they were, and of the stream at most its idle count is cleared (43_framer.md R187, 45_stream.md R254). -/
theorem exists_delivered_of_route_eq {n : Instr} {c id : Byte} {p : List Byte} {m : DecodedMessage}
    (h : inboundMessage s.par n = some (c, id, p, m)) (hw : n.wellFormed s.par = true)
    (hroute : ∀ u : State, u.mode = s.mode → u.seq = s.seq → u.route m = u) :
    ∃ t : State, exec n s = .next t ∧ s.Delivered s.byteNoted t c id p m := by
  obtain ⟨hmax, hdecode, hexec⟩ := exec_inbound h hw
  rw [State.receiveFrame_eq hmax, hdecode] at hexec
  have haccept : (s.noteByte.loadFrame c id p (rawFrame c id p).checksumA).acceptFrame (rawFrame c id p) m =
      ((((s.noteByte.loadFrame c id p (rawFrame c id p).checksumA).recordFrame (rawFrame c id p) m).emit
        (.frameOk (rawFrame c id p))).emit (.msg m)).enterSeeking :=
    congrArg State.enterSeeking (hroute _ s.noteByte_mode s.noteByte_seq)
  refine ⟨_, hexec, s.received_acceptFrame c id p hdecode, ?mode, ?seq, ?stream, ?errSticky, [], ?nothing, ?out⟩
  case nothing => exact (List.append_nil _).symm
  all_goals rw [haccept, State.noteByte_eq_byteNoted]
  case mode | seq | stream | errSticky => rfl
  case out => simp [State.byteNoted]

/-- Outside STREAM a received byte changes nothing but the framer (45_stream.md R254). -/
theorem State.byteNoted_of_not_stream (h : s.mode ≠ .stream) : s.byteNoted = s := by
  rw [State.byteNoted, State.rxIdleAfterByte, if_neg h]

/-- Settles O34: in IDLE and STOPPED no message is routed (`State.route_outside`). That a message is an instruction of
its own, whatever the framer was doing, is the model's reading (entries 1, 18 and 22). -/
theorem handOffOutsideRuns : Obligations.HandOffOutsideRuns := by
  unfold Obligations.HandOffOutsideRuns
  intro s n c id p m h hw hmode
  have hnoted : s.byteNoted = s := State.byteNoted_of_not_stream (by rcases hmode with e | e <;> simp [e])
  have hdelivered := exists_delivered_of_route_eq h hw fun u hu _ => State.route_outside (hu ▸ hmode) m
  rwa [hnoted] at hdelivered

/-- Settles O36: in STREAM a message other than a fix record goes nowhere (`State.route_stream_of_not_fix`). That a
message is an instruction of its own, whatever the framer was doing, is the model's reading (entries 1, 18 and 22). -/
theorem streamIgnoresOthers : Obligations.StreamIgnoresOthers := by
  unfold Obligations.StreamIgnoresOthers
  intro s n c id p m h hw hmode hfix
  have hnoted : s.byteNoted = { s with stream.rxIdle := 0 } := by
    rw [State.byteNoted, State.rxIdleAfterByte, if_pos hmode]
  have hdelivered := exists_delivered_of_route_eq h hw fun u hu _ =>
    State.route_stream_of_not_fix (hu.trans hmode) hfix
  rwa [hnoted] at hdelivered

/-- A message that neither answers the current command nor brings its read-back changes nothing (44_sequencer.md
R223). -/
theorem State.seqOnMsg_eq_self {m : DecodedMessage} (hans : s.answered m = false)
    (hrate : ∀ x, m = .rateConfig x → s.seq.step ≠ .pollRate)
    (hmsg : ∀ x, m = .msgEnableConfig x → ¬ (s.seq.step = .pollFixConfig ∧ x.msgClass = 0x01 ∧ x.msgId = 0x07)) :
    s.seqOnMsg m = s := by
  rcases s.seqOnMsg_cases m with e | ⟨a, rfl, hkey, _⟩ | ⟨a, rfl, hkey, _⟩ | ⟨x, hx, hstep, _⟩ |
    ⟨x, hx, hstep, hcls, hid, _⟩
  · exact e
  · exact absurd hkey (beq_eq_false_iff_ne.1 hans)
  · exact absurd hkey (beq_eq_false_iff_ne.1 hans)
  · exact absurd hstep (hrate x hx)
  · exact absurd ⟨hstep, hcls, hid⟩ (hmsg x hx)

/-- Settles O42: in STARTUP the sequencer takes the message, which changes nothing (`State.seqOnMsg_eq_self`). That a
message is an instruction of its own, whatever the framer was doing, is the model's reading (entries 1, 18 and 22). -/
theorem startupIgnoresOthers : Obligations.StartupIgnoresOthers := by
  unfold Obligations.StartupIgnoresOthers
  intro s n c id p m h hw hmode hans hrate hmsg
  have hroute : ∀ u : State, u.mode = s.mode → u.seq = s.seq → u.route m = u := fun u hu hseq => by
    rw [State.route_startup (hu.trans hmode)]
    apply State.seqOnMsg_eq_self
    · rwa [State.answered_congr hseq]
    · rwa [hseq]
    · rwa [hseq]
  have hdelivered := exists_delivered_of_route_eq h hw hroute
  rwa [State.byteNoted_of_not_stream (by simp [hmode])] at hdelivered

end Sys2Proof.Machine
end

section
/-! PROOF. Stale bytes of the payload buffer (10_state.md R26; 43_framer.md R185; 42_codec_decode.md R140): every
operation but a payload byte and the hand-off commutes with replacing the buffer, a payload byte writes the same byte to
both, and the hand-off reads no byte but those that have arrived. -/

namespace Sys2Proof.Machine

variable {s t u : State}

/-! ### Replacing the buffer -/

/-- The state with other cells in the buffer, its unwritten bytes of another draw (10_state.md R26; entry 6). -/
def State.setBuffer (x : Memory) (d : Nat) (s : State) : State := { s with framer.fPay := x, draws := d }

@[simp] theorem State.setBuffer_mode (x : Memory) (d : Nat) (s : State) : (s.setBuffer x d).mode = s.mode := rfl
@[simp] theorem State.setBuffer_seq (x : Memory) (d : Nat) (s : State) : (s.setBuffer x d).seq = s.seq := rfl

section Commute

variable (x : Memory) (d : Nat) (s : State)

theorem State.noteByte_setBuffer : (s.setBuffer x d).noteByte = s.noteByte.setBuffer x d := by
  unfold State.noteByte
  exact ite_eq_apply_ite rfl rfl

/-! ### The sequencer and the stream -/

theorem State.checkReadback_setBuffer : (s.setBuffer x d).checkReadback = s.checkReadback.setBuffer x d := by
  unfold State.checkReadback State.checkRate State.checkMsg
  rw [State.setBuffer_seq]
  cases s.seq.step with
  | setProtocolFilter | setRate | enableFixOutput => rfl
  | pollRate =>
    cases s.seq.rbRate with
    | none => rfl
    | some c => exact ite_eq_apply_ite rfl rfl
  | pollFixConfig =>
    cases s.seq.rbMsg with
    | none => rfl
    | some m => exact ite_eq_apply_ite rfl rfl

theorem State.advance_setBuffer : (s.setBuffer x d).advance = s.advance.setBuffer x d := by
  unfold State.advance
  rw [State.setBuffer_seq]
  cases nextStep s.seq.verify s.seq.step <;> rfl

theorem State.stepOk_setBuffer : (s.setBuffer x d).stepOk = s.stepOk.setBuffer x d := by
  unfold State.stepOk
  rw [State.checkReadback_setBuffer]
  exact State.advance_setBuffer x d (s.checkReadback.emit _)

theorem State.stepFailed_setBuffer (r : FailReason) :
    (s.setBuffer x d).stepFailed r = (s.stepFailed r).setBuffer x d := by
  unfold State.stepFailed
  exact ite_eq_apply_ite rfl rfl

theorem State.seqOnMsg_setBuffer (m : DecodedMessage) :
    (s.setBuffer x d).seqOnMsg m = (s.seqOnMsg m).setBuffer x d := by
  unfold State.seqOnMsg
  rw [State.setBuffer_seq]
  cases m with
  | ack a => exact ite_eq_apply_ite (s.stepOk_setBuffer x d) rfl
  | nack a => exact ite_eq_apply_ite (s.stepFailed_setBuffer x d _) rfl
  | rateConfig | msgEnableConfig => exact ite_eq_apply_ite rfl rfl
  | fixRecord | unrecognized => rfl

theorem State.route_setBuffer (m : DecodedMessage) : (s.setBuffer x d).route m = (s.route m).setBuffer x d := by
  unfold State.route
  rw [State.setBuffer_mode]
  cases s.mode with
  | startup => exact s.seqOnMsg_setBuffer x d m
  | stream => cases m <;> rfl
  | idle | stopped => rfl

theorem State.seqTick_setBuffer : (s.setBuffer x d).seqTick = s.seqTick.setBuffer x d := by
  unfold State.seqTick
  exact ite_eq_apply_ite (State.stepFailed_setBuffer x d { s with seq.wait := s.seq.wait + 1 } _) rfl

theorem State.streamTick_setBuffer : (s.setBuffer x d).streamTick = s.streamTick.setBuffer x d := by
  unfold State.streamTick
  exact ite_eq_apply_ite rfl rfl

/-! ### The framer -/

theorem State.seek_setBuffer (b : Byte) : (s.setBuffer x d).seek b = (s.seek b).setBuffer x d := by
  unfold State.seek
  exact ite_eq_apply_ite rfl rfl

theorem State.lengthHigh_setBuffer (b : Byte) : (s.setBuffer x d).lengthHigh b = (s.lengthHigh b).setBuffer x d := by
  unfold State.lengthHigh State.checkLength
  exact ite_eq_apply_ite rfl (ite_eq_apply_ite rfl rfl)

theorem State.acceptFrame_setBuffer (f : RawFrame) (m : DecodedMessage) :
    (s.setBuffer x d).acceptFrame f m = (s.acceptFrame f m).setBuffer x d :=
  congrArg State.enterSeeking (State.route_setBuffer x d (((s.recordFrame f m).emit (.frameOk f)).emit (.msg m)) m)

theorem State.transportFailed_setBuffer : (s.setBuffer x d).transportFailed = s.transportFailed.setBuffer x d := by
  rw [State.transportFailed_eq, State.transportFailed_eq]
  rfl

end Commute

/-! ### States that differ in stale bytes -/

/-- The states differ at most in bytes of the buffer which the frame in progress has not written, and in the draw they
come from. -/
structure State.SameButStale (s u : State) : Prop where
  rest : ∃ x d, u = s.setBuffer x d
  arrived : ∀ k < s.payloadArrived, s.payByte k = u.payByte k

/-- An operation that leaves the buffer alone, and after which no more of it belongs to the frame in progress. -/
theorem State.SameButStale.of_le {x : Memory} {d : Nat} (h : s.SameButStale (s.setBuffer x d))
    (hpay : t.framer.fPay = s.framer.fPay) (hdraws : t.draws = s.draws)
    (hle : t.payloadArrived ≤ s.payloadArrived) : t.SameButStale (t.setBuffer x d) where
  rest := ⟨x, d, rfl⟩
  arrived k hk := by
    have hbyte : t.payByte k = s.payByte k := by rw [State.payByte, State.payByte, hpay, hdraws]
    exact hbyte.trans (h.arrived k (hk.trans_le hle))

/-- An operation that leaves the framer alone. -/
theorem State.SameButStale.of_framer_eq {x : Memory} {d : Nat} (h : s.SameButStale (s.setBuffer x d))
    (hframer : t.framer = s.framer) (hdraws : t.draws = s.draws) : t.SameButStale (t.setBuffer x d) := by
  refine h.of_le (by rw [hframer]) hdraws (le_of_eq ?_)
  rw [State.payloadArrived, State.payloadArrived, hframer]

/-- An operation that leaves the buffer alone, and after which none of it belongs to a frame. -/
theorem State.SameButStale.of_none_arrived {x : Memory} {d : Nat} (h : t.payloadArrived = 0) :
    t.SameButStale (t.setBuffer x d) where
  rest := ⟨x, d, rfl⟩
  arrived k hk := absurd hk (by omega)

theorem State.payloadArrived_seeking (h : s.framer.fs = .seeking) : s.payloadArrived = 0 := by
  rw [State.payloadArrived, h]

theorem State.payloadArrived_envelope (h : s.framer.fs = .envelope) : s.payloadArrived = 0 := by
  rw [State.payloadArrived, h]

theorem State.payloadArrived_payload (h : s.framer.fs = .payload) : s.payloadArrived = s.framer.fIdx.toNat := by
  rw [State.payloadArrived, h]

theorem State.payloadArrived_checksum (h : s.framer.fs = .checksum) : s.payloadArrived = s.framer.fLen.toNat := by
  rw [State.payloadArrived, h]

/-- The outcome is a next state that differs from `t` in stale bytes only. -/
def TakenAlike (o : Host.Outcome State Fault Refusal) (t : State) : Prop := ∃ v, o = .next v ∧ t.SameButStale v

/-! ### The framer's step -/

/-- After SEEKING and the envelope no byte of the buffer belongs to the frame yet (43_framer.md R181, R184). -/
theorem State.payloadArrived_seek (b : Byte) (h : s.framer.fs = .seeking) : (s.seek b).payloadArrived = 0 := by
  unfold State.seek
  split
  · exact State.payloadArrived_envelope rfl
  · exact State.payloadArrived_seeking h

theorem State.payloadArrived_lengthHigh (s : State) (b : Byte) : (s.lengthHigh b).payloadArrived = 0 := by
  rw [State.lengthHigh_eq]
  rcases (s.storeLength b).checkLength_cases (s.fullLength b) with ⟨_, e⟩ | ⟨hzero, _, e⟩ | ⟨_, _, e⟩ <;> rw [e]
  · exact State.payloadArrived_seeking rfl
  · exact (State.payloadArrived_checksum rfl).trans (congrArg BitVec.toNat hzero)
  · exact State.payloadArrived_payload rfl

/-- A payload byte goes to the same address of both buffers (43_framer.md R185). -/
theorem State.SameButStale.storeByte {x : Memory} {d : Nat} {b : Byte} {fs : FramerState} {idx : U16}
    (h : s.SameButStale (s.setBuffer x d)) (hfs : s.framer.fs = .payload)
    (harrived : (s.storeByte b fs idx).payloadArrived = s.framer.fIdx.toNat + 1) :
    (s.storeByte b fs idx).SameButStale ((s.setBuffer x d).storeByte b fs idx) where
  rest := ⟨x.write s.framer.fIdx.toNat b, d, rfl⟩
  arrived k hk := by
    rw [State.payByte_storeByte, State.payByte_storeByte]
    change _ = if k = s.framer.fIdx.toNat then b else (s.setBuffer x d).payByte k
    split
    · rfl
    · refine h.arrived k ?_
      rw [State.payloadArrived_payload hfs]
      omega

/-- After a payload byte one more byte belongs to the frame (43_framer.md R185). -/
theorem State.payloadByte_alike {x : Memory} {d : Nat} {b : Byte} (h : s.SameButStale (s.setBuffer x d))
    (hfs : s.framer.fs = .payload) (hidx : s.framer.fIdx < s.framer.fLen)
    (hin : s.framer.fIdx.toNat < s.par.maxPayload) (ht : s.framerByte b = .next t) :
    TakenAlike ((s.setBuffer x d).framerByte b) t := by
  by_cases hlast : s.framer.fIdx + 1 = s.framer.fLen
  · rw [State.framerByte_lastPayload hfs hin hlast] at ht
    cases ht
    refine ⟨_, State.framerByte_lastPayload (s := s.setBuffer x d) hfs hin hlast, h.storeByte hfs ?_⟩
    rw [State.payloadArrived_checksum rfl]
    change s.framer.fLen.toNat = _
    bv_omega
  · rw [State.framerByte_nextPayload hfs hin hlast] at ht
    cases ht
    refine ⟨_, State.framerByte_nextPayload (s := s.setBuffer x d) hfs hin hlast, h.storeByte hfs ?_⟩
    rw [State.payloadArrived_payload rfl]
    change (s.framer.fIdx + 1).toNat = _
    bv_omega

/-- The hand-off reads the bytes that have arrived and no other (43_framer.md R187, 42_codec_decode.md R140). -/
theorem State.SameButStale.payload_eq {x : Memory} {d : Nat} (h : s.SameButStale (s.setBuffer x d))
    (hfs : s.framer.fs = .checksum) :
    (s.setBuffer x d).payload s.framer.fLen.toNat = s.payload s.framer.fLen.toNat := by
  refine List.map_congr_left fun k hk => (h.arrived k ?_).symm
  rw [State.payloadArrived_checksum hfs]
  exact List.mem_range.1 hk

/-- Each byte is taken alike, whatever the framer's state (43_framer.md R180 to R187). -/
theorem framerByte_alike {x : Memory} {d : Nat} {b : Byte} (hinv : s.FramerInv)
    (h : s.SameButStale (s.setBuffer x d)) (ht : s.framerByte b = .next t) :
    TakenAlike ((s.setBuffer x d).framerByte b) t := by
  have envelope : s.framer.fs = .envelope → (s.setBuffer x d).framerByte b = (s.setBuffer x d).envelope b :=
    fun hfs => State.framerByte_envelope hfs
  rcases s.framerByte_cases ht with ⟨hfs, rfl⟩ | ⟨hfs, hidx, rfl⟩ | ⟨hfs, hidx, rfl⟩ | ⟨hfs, hidx, rfl⟩ |
    ⟨hfs, hidx, rfl⟩ | ⟨hfs, hin, _⟩ | ⟨hfs, hidx, rfl⟩ | ⟨hfs, hidx, hmax, ha, hb, rfl⟩ | ⟨hfs, hidx, hmax, hbad, rfl⟩
  · refine ⟨_, State.framerByte_seeking (s := s.setBuffer x d) hfs, ?_⟩
    rw [State.seek_setBuffer]
    exact .of_none_arrived (s.payloadArrived_seek b hfs)
  · exact ⟨_, (envelope hfs).trans (State.envelope_zero hidx), .of_none_arrived (State.payloadArrived_envelope hfs)⟩
  · exact ⟨_, (envelope hfs).trans (State.envelope_one hidx), .of_none_arrived (State.payloadArrived_envelope hfs)⟩
  · exact ⟨_, (envelope hfs).trans (State.envelope_two hidx), .of_none_arrived (State.payloadArrived_envelope hfs)⟩
  · refine ⟨_, (envelope hfs).trans (State.envelope_three hidx), ?_⟩
    rw [State.lengthHigh_setBuffer]
    exact .of_none_arrived (s.payloadArrived_lengthHigh b)
  · exact State.payloadByte_alike h hfs (hinv.payload hfs).1 hin ht
  · refine ⟨_, (State.framerByte_checksum (s := s.setBuffer x d) hfs).trans (State.checksumByte_zero hidx),
      h.of_le rfl rfl (le_of_eq ?_)⟩
    rw [State.payloadArrived_checksum (s := s.checksumFirst b) hfs, State.payloadArrived_checksum hfs]
    rfl
  · refine ⟨_, State.framerByte_goodChecksum (s := s.setBuffer x d) hfs hidx hmax ⟨ha, hb⟩ (h.payload_eq hfs), ?_⟩
    rw [State.acceptFrame_setBuffer]
    exact .of_none_arrived (State.payloadArrived_seeking (by rw [State.acceptFrame_framer]))
  · exact ⟨_, State.framerByte_badChecksum (s := s.setBuffer x d) hfs hidx hmax hbad,
      .of_none_arrived (State.payloadArrived_seeking rfl)⟩

/-! ### The events -/

theorem execRxByte_alike {x : Memory} {d : Nat} {b : Byte} (hinv : s.FramerInv)
    (h : s.SameButStale (s.setBuffer x d)) (ht : s.noteByte.framerByte b = .next t) :
    TakenAlike (exec (.rxByte b) (s.setBuffer x d)) t := by
  change TakenAlike ((s.setBuffer x d).noteByte.framerByte b) t
  rw [State.noteByte_setBuffer]
  exact framerByte_alike (hinv.congr s.noteByte_framer s.noteByte_par)
    (h.of_framer_eq s.noteByte_framer s.noteByte_draws) ht

theorem execRxError_alike {x : Memory} {d : Nat} (ht : execRxError s = .next t) :
    TakenAlike (execRxError (s.setBuffer x d)) t := by
  unfold execRxError
  rw [State.transportFailed_setBuffer]
  rcases execRxError_cases ht with ⟨hmode, rfl⟩ | ⟨hmode, rfl⟩
  · refine ⟨_, if_pos hmode, .of_none_arrived (x := x) (d := d) (State.payloadArrived_seeking ?_)⟩
    rw [State.stopStream_framer, State.transportFailed_framer]
  · refine ⟨_, if_neg hmode, .of_none_arrived (State.payloadArrived_seeking ?_)⟩
    rw [State.transportFailed_framer]

theorem execTick_alike {x : Memory} {d : Nat} (h : s.SameButStale (s.setBuffer x d)) (ht : execTick s = .next t) :
    TakenAlike (execTick (s.setBuffer x d)) t := by
  have hkept : t.framer = s.framer ∧ t.draws = s.draws := by
    rcases execTick_cases ht with ⟨_, rfl⟩ | ⟨_, _, rfl⟩ | ⟨_, _, rfl⟩ | ⟨_, _, rfl⟩ | ⟨_, _, rfl⟩
    case inr.inr.inl => exact ⟨State.stepFailed_framer _ _, State.stepFailed_draws _ _⟩
    all_goals exact ⟨rfl, rfl⟩
  refine ⟨t.setBuffer x d, ?runs, h.of_framer_eq hkept.1 hkept.2⟩
  unfold execTick at ht ⊢
  rw [State.setBuffer_mode, State.seqTick_setBuffer, State.streamTick_setBuffer]
  cases hmode : s.mode <;> (rw [hmode] at ht; cases ht; rfl)

theorem execCancel_alike {x : Memory} {d : Nat} (h : s.SameButStale (s.setBuffer x d))
    (ht : execCancel s = .next t) : TakenAlike (execCancel (s.setBuffer x d)) t := by
  have hkept : t.framer = s.framer ∧ t.draws = s.draws := by
    rcases execCancel_cases ht with ⟨_, rfl⟩ | ⟨_, rfl⟩ | ⟨_, rfl⟩ <;> exact ⟨rfl, rfl⟩
  refine ⟨t.setBuffer x d, ?runs, h.of_framer_eq hkept.1 hkept.2⟩
  unfold execCancel at ht ⊢
  rw [State.setBuffer_mode]
  cases hmode : s.mode <;> (rw [hmode] at ht; cases ht; rfl)

/-- An event that is not legal is refused with the same word from both states (60_exceptions.md R278). -/
theorem exec_alike_of_not_legal {x : Memory} {d : Nat} {i : Instr} (h : s.SameButStale (s.setBuffer x d))
    (hlegal : s.legal i = false) (ht : exec i s = .next t) : TakenAlike (exec i (s.setBuffer x d)) t := by
  obtain ⟨w, hw, e⟩ := exec_of_not_legal hlegal
  obtain ⟨w', hw', e'⟩ := exec_of_not_legal (s := s.setBuffer x d) hlegal
  cases hw.symm.trans hw'
  cases e.symm.trans ht
  exact ⟨_, e', h.of_framer_eq rfl rfl⟩

theorem exec_startSeq_of_mode (h : s.mode = .idle ∨ s.mode = .stopped) (p : Preset) (v : Bool) :
    exec (.startSeq p v) s = .next (s.startSequence p v) :=
  if_pos (by simpa [State.seqMayStart_eq] using h)

theorem exec_startStream_of_mode (h : s.mode = .idle ∨ s.mode = .stopped)
    (hstate : s.seq.state = .notRun ∨ s.seq.state = .done) : exec .startStream s = .next s.startStream :=
  if_pos (by simp [State.streamMayStart_eq, h, hstate])

/-- RESET draws the unwritten bytes anew, of which no frame has any (70_reset_and_hazards.md R300; entry 6). -/
theorem execReset_alike {x : Memory} {d : Nat} (ht : execReset s = .next t) :
    TakenAlike (execReset (s.setBuffer x d)) t := by
  cases ht
  exact ⟨_, rfl, .of_none_arrived (x := []) (d := d + 1) (State.payloadArrived_seeking rfl)⟩

/-- Every event word is taken alike by states that differ in stale bytes only. -/
theorem exec_word_alike {w : U16} (hinv : s.FramerInv) (h : s.SameButStale u)
    (ht : exec (decodeWord w) s = .next t) : TakenAlike (exec (decodeWord w) u) t := by
  obtain ⟨x, d, rfl⟩ := h.rest
  rcases exec_word_cases ht with ⟨b, hi, hb⟩ | ⟨_, hlegal, _, _⟩ | ⟨hi, he⟩ | ⟨hi, he⟩ | ⟨p, v, hi, hmode, rfl⟩ |
    ⟨hi, hmode, hstate, rfl⟩ | ⟨hi, he⟩ | ⟨hi, he⟩
  case inr.inl => exact exec_alike_of_not_legal h hlegal ht
  all_goals rw [hi]
  · exact execRxByte_alike hinv h hb
  · exact execRxError_alike he
  · exact execTick_alike h he
  · exact ⟨_, exec_startSeq_of_mode (s := s.setBuffer x d) hmode p v, h.of_framer_eq rfl rfl⟩
  · exact ⟨_, exec_startStream_of_mode (s := s.setBuffer x d) hmode hstate, h.of_framer_eq rfl rfl⟩
  · exact execCancel_alike h he
  · exact execReset_alike he

/-- Settles O55: the two states differ in stale bytes only, and so do their next states (`exec_word_alike`). -/
theorem staleBytesUnobserved : Obligations.StaleBytesUnobserved := by
  unfold Obligations.StaleBytesUnobserved
  intro w s u t hinv _ hrest harrived ht
  obtain ⟨v, hv, ⟨x, d, rfl⟩, halike⟩ := exec_word_alike hinv.framer ⟨⟨_, _, hrest⟩, harrived⟩ ht
  exact ⟨_, hv, rfl, halike⟩

end Sys2Proof.Machine
end

section
/-! PROOF. The sequencer's events (family 44_sequencer.md, R213 to R227): what each operation leaves, written out, and
how a message's effect is carried to the whole state its frame leaves. -/

namespace Sys2Proof.Machine

variable {s : State}

/-! ### Sending a step's command -/

/-- Of the steps only POLL_RATE sends the rate poll (R210). -/
theorem stepCommand_eq_pollRate_iff (p : Preset) (n : SeqStep) : stepCommand p n = .pollRate ↔ n = .pollRate := by
  cases n with
  | setRate => cases p <;> exact iff_of_false nofun nofun
  | pollRate => exact iff_of_true rfl rfl
  | setProtocolFilter | enableFixOutput | pollFixConfig => exact iff_of_false nofun nofun

/-- Of the steps only POLL_FIX_CONFIG sends the fix-configuration poll (R210). -/
theorem stepCommand_eq_pollFixConfig_iff (p : Preset) (n : SeqStep) :
    stepCommand p n = .pollFixConfig ↔ n = .pollFixConfig := by
  cases n with
  | setRate => cases p <;> exact iff_of_false nofun nofun
  | pollFixConfig => exact iff_of_true rfl rfl
  | setProtocolFilter | enableFixOutput | pollRate => exact iff_of_false nofun nofun

/-- Sending a step's command starts its wait and clears the read-back of a poll (R212). -/
theorem State.send_eq (n : SeqStep) (s : State) : s.send n = { s with
    seq := { s.seq with
      wait := 0
      rbRate := if n = .pollRate then none else s.seq.rbRate
      rbMsg := if n = .pollFixConfig then none else s.seq.rbMsg }
    out := s.out ++ [.txFrame (commandFrame s.par (stepCommand s.seq.preset n))] } := by
  simp only [State.send, State.transmit, State.emit, stepCommand_eq_pollRate_iff, stepCommand_eq_pollFixConfig_iff]

/-! ### A failed step -/

/-- A failed step is tried again or ends the run, written out (R219 to R222). -/
theorem State.stepFailed_eq_afterStepFailed (s : State) (r : FailReason) : s.stepFailed r = s.afterStepFailed r := by
  have hbit : r.cause.bit = reasonBit r := by cases r <;> rfl
  unfold State.afterStepFailed
  rcases s.stepFailed_cases r with ⟨hr, e⟩ | ⟨hr, e⟩
  · have hzero : s.seq.retries = 0 := by omega
    rw [e, if_pos hzero, State.retry, State.send_eq]
    simp [State.afterRetry, State.raise, State.emit, hbit, hzero]
  · rw [e, if_neg (by omega)]
    simp only [State.configFailed, State.raise, State.emit, hbit]
    rfl

/-! ### The read-back checks -/

theorem State.checkRate_of_none (h : s.seq.rbRate = none) : s.checkRate = { s with
    seq.warnRate := some .missing, out := s.out ++ [.seqWarning .pollRate .missing .none] } := by
  unfold State.checkRate
  rw [h]
  rfl

theorem State.checkRate_of_requested {r : RateConfig} (h : s.seq.rbRate = some r)
    (hr : r = requestedRate s.seq.preset) : s.checkRate = { s with seq.warnRate := none } := by
  unfold State.checkRate
  rw [h]
  exact if_neg (not_not.2 hr)

theorem State.checkRate_of_other {r : RateConfig} (h : s.seq.rbRate = some r)
    (hr : r ≠ requestedRate s.seq.preset) : s.checkRate = { s with
      seq.warnRate := some .mismatch, out := s.out ++ [.seqWarning .pollRate .mismatch (.rate r)] } := by
  unfold State.checkRate
  rw [h]
  exact if_pos hr

theorem State.checkMsg_of_none (h : s.seq.rbMsg = none) : s.checkMsg = { s with
    seq.warnMsg := some .missing, out := s.out ++ [.seqWarning .pollFixConfig .missing .none] } := by
  unfold State.checkMsg
  rw [h]
  rfl

theorem State.checkMsg_of_enabled {m : MsgEnableConfig} (h : s.seq.rbMsg = some m) (hm : m.enabled = true) :
    s.checkMsg = { s with seq.warnMsg := none } := by
  unfold State.checkMsg
  rw [h]
  exact if_neg (by simp [hm])

theorem State.checkMsg_of_disabled {m : MsgEnableConfig} (h : s.seq.rbMsg = some m) (hm : m.enabled = false) :
    s.checkMsg = { s with
      seq.warnMsg := some .mismatch, out := s.out ++ [.seqWarning .pollFixConfig .mismatch (.msg m)] } := by
  unfold State.checkMsg
  rw [h]
  exact if_pos hm

/-! ### An acknowledged step -/

theorem State.stepOk_of_nextStep_some {n : SeqStep} (h : nextStep s.seq.verify s.seq.step = some n) :
    s.stepOk = (s.checkReadback.emit (.seqStepOk s.seq.step)).enterStep n := by
  rcases s.stepOk_cases with ⟨k, hk, e⟩ | ⟨hnone, _⟩
  · cases h.symm.trans hk
    exact e
  · cases h.symm.trans hnone

theorem State.stepOk_of_nextStep_none (h : nextStep s.seq.verify s.seq.step = none) :
    s.stepOk = (s.checkReadback.emit (.seqStepOk s.seq.step)).complete := by
  rcases s.stepOk_cases with ⟨_, hsome, _⟩ | ⟨_, e⟩
  · cases h.symm.trans hsome
  · exact e

/-- Moving on to a step, written out (R214, R212). -/
theorem State.enterStep_eq (n : SeqStep) (s : State) : s.enterStep n = { s with
    seq := { s.seq with
      step := n, retries := 0, failReason := none, wait := 0
      rbRate := if n = .pollRate then none else s.seq.rbRate
      rbMsg := if n = .pollFixConfig then none else s.seq.rbMsg }
    out := s.out ++ [.txFrame (commandFrame s.par (stepCommand s.seq.preset n))] } := by
  rw [State.enterStep, State.send_eq]

/-- The Ack of a command step that another step follows, written out (R214). -/
theorem State.stepOk_command {n : SeqStep} (hrate : s.seq.step ≠ .pollRate) (hfix : s.seq.step ≠ .pollFixConfig)
    (hn : nextStep s.seq.verify s.seq.step = some n) (hnfix : n ≠ .pollFixConfig) : s.stepOk = { s with
      seq := { s.seq with
        step := n, retries := 0, failReason := none, wait := 0
        rbRate := if n = .pollRate then none else s.seq.rbRate }
      out := s.out ++ [.seqStepOk s.seq.step, .txFrame (commandFrame s.par (stepCommand s.seq.preset n))] } := by
  rw [State.stepOk_of_nextStep_some hn, State.checkReadback_of_not_poll s hrate hfix, State.enterStep_eq]
  simp [State.emit, hnfix]

/-- The Ack of the last command step without verification, written out (R214, R217). -/
theorem State.stepOk_last (hstep : s.seq.step = .enableFixOutput) (hverify : s.seq.verify = false) :
    s.stepOk = { s with
      mode := .idle, seq.state := .done, out := s.out ++ [.seqStepOk .enableFixOutput, .seqDone] } := by
  have hnext : nextStep s.seq.verify s.seq.step = none := by rw [hstep, hverify]; rfl
  rw [State.stepOk_of_nextStep_none hnext, State.checkReadback_of_not_poll s (by simp [hstep]) (by simp [hstep])]
  simp [State.complete, State.emit, hstep]

/-- The Ack of POLL_RATE, whatever its check finds and reports (R214, R226). -/
theorem State.stepOk_pollRate {k : Option WarnKind} {o : List OutEvent} (hstep : s.seq.step = .pollRate)
    (hcheck : s.checkRate = { s with seq.warnRate := k, out := s.out ++ o }) : s.stepOk = { s with
      seq := { s.seq with
        step := .pollFixConfig, retries := 0, failReason := none, wait := 0, rbMsg := none, warnRate := k }
      out := s.out ++ o ++ [.seqStepOk .pollRate, .txFrame (commandFrame s.par .pollFixConfig)] } := by
  have hreadback : s.checkReadback = s.checkRate := by rw [State.checkReadback, hstep]
  have hnext : nextStep s.seq.verify s.seq.step = some .pollFixConfig := by rw [hstep]; rfl
  rw [State.stepOk_of_nextStep_some hnext, hreadback, hcheck, State.enterStep_eq]
  simp [State.emit, stepCommand, hstep]

/-- The Ack of POLL_FIX_CONFIG, whatever its check finds and reports (R217, R227). -/
theorem State.stepOk_pollFixConfig {k : Option WarnKind} {o : List OutEvent} (hstep : s.seq.step = .pollFixConfig)
    (hcheck : s.checkMsg = { s with seq.warnMsg := k, out := s.out ++ o }) : s.stepOk = { s with
      mode := .idle
      seq := { s.seq with state := .done, warnMsg := k }
      out := s.out ++ o ++ [.seqStepOk .pollFixConfig, .seqDone] } := by
  have hreadback : s.checkReadback = s.checkMsg := by rw [State.checkReadback, hstep]
  have hnext : nextStep s.seq.verify s.seq.step = none := by rw [hstep]; rfl
  rw [State.stepOk_of_nextStep_none hnext, hreadback, hcheck]
  simp [State.complete, State.emit, hstep]

/-! ### A whole message during a run -/

/-- `s` with what a frame's hand-off has written before its message is routed: the framer, the records, the counters,
and the output up to then (43_framer.md R187). -/
def State.recorded (f : Framer) (lf : Option RawFrame) (lm : Option DecodedMessage) (c : Counters)
    (x : List OutEvent) (s : State) : State :=
  { s with framer := f, lastFrame := lf, lastMsg := lm, cnt := c, out := x }

/-- A message that its row describes is handed to the sequencer in STARTUP, and what the sequencer makes of it, `u` with
the output `o`, does not depend on what the frame has written (43_framer.md R187, 45_stream.md R250). -/
theorem delivered_of_seqOnMsg {i : Instr} {c id : Byte} {p : List Byte} {m : DecodedMessage} {t u : State}
    {o : List OutEvent} (ht : exec i s = .next t) (h : inboundMessage s.par i = some (c, id, p, m))
    (hw : i.wellFormed s.par = true) (hmode : s.mode = .startup) (hout : u.out = s.out ++ o)
    (heffect : ∀ f lf lm n x, (s.recorded f lf lm n x).seqOnMsg m = u.recorded f lf lm n (x ++ o)) :
    s.Delivered u t c id p m := by
  obtain ⟨hmax, hdecode, hexec⟩ := exec_inbound h hw
  have hnoted : s.noteByte = s :=
    s.noteByte_eq_byteNoted.trans (State.byteNoted_of_not_stream (by simp [hmode]))
  let f := rawFrame c id p
  let v := s.loadFrame c id p f.checksumA
  let x := s.out ++ [.frameOk f, .msg m]
  have hrecorded : ((v.recordFrame f m).emit (.frameOk f)).emit (.msg m) =
      s.recorded v.framer (some f) (some m) (v.recordFrame f m).cnt x := by
    simp only [State.emit, List.append_assoc]
    rfl
  have haccept : v.acceptFrame f m =
      (u.recorded v.framer (some f) (some m) (v.recordFrame f m).cnt (x ++ o)).enterSeeking := by
    have hroute := State.route_startup (s := s.recorded v.framer (some f) (some m) (v.recordFrame f m).cnt x) hmode m
    rw [State.acceptFrame, hrecorded, hroute, heffect]
  rw [State.receiveFrame_eq hmax, hdecode] at hexec
  cases ht.symm.trans hexec
  refine ⟨s.received_acceptFrame c id p hdecode, ?mode, ?seq, ?stream, ?errSticky, o, hout, ?out⟩
  all_goals rw [hnoted, haccept]
  all_goals rfl

/-- A message that its row describes has a next state (43_framer.md R187). -/
theorem exists_next_of_inbound {i : Instr} {c id : Byte} {p : List Byte} {m : DecodedMessage}
    (h : inboundMessage s.par i = some (c, id, p, m)) (hw : i.wellFormed s.par = true) :
    ∃ t : State, exec i s = .next t := by
  obtain ⟨hmax, _, hexec⟩ := exec_inbound h hw
  exact ⟨_, hexec.trans (State.receiveFrame_eq hmax)⟩

/-- An Ack with the key of the current step acknowledges it (R214). -/
theorem State.seqOnMsg_ack {a : AckEcho} (h : (a.echoedClass, a.echoedId) = stepKey s.seq.step) :
    s.seqOnMsg (.ack a) = s.stepOk := by
  rw [State.seqOnMsg, if_pos h]

/-- A Nack with the key of the current step fails it (R221). -/
theorem State.seqOnMsg_nack {a : AckEcho} (h : (a.echoedClass, a.echoedId) = stepKey s.seq.step) :
    s.seqOnMsg (.nack a) = s.stepFailed .nackReceived := by
  rw [State.seqOnMsg, if_pos h]

/-- Settles O37: the step that answers the key is acknowledged (`State.seqOnMsg_ack`), and the run goes on
(`State.stepOk_command`) or is complete (`State.stepOk_last`). That the message is an instruction of its own, whatever
the framer was doing, is the model's reading (entries 1, 18 and 22). -/
theorem ackOfCommandStep : Obligations.AckOfCommandStep := by
  unfold Obligations.AckOfCommandStep
  intro s extra hmode hrate hfix hmax p m
  have hw : (Instr.rxAck p).wellFormed s.par = true := by simp [Instr.wellFormed, p, hmax]
  have hack : ∀ f lf lm n x, (s.recorded f lf lm n x).seqOnMsg m = (s.recorded f lf lm n x).stepOk :=
    fun f lf lm n x => State.seqOnMsg_ack (s := s.recorded f lf lm n x) rfl
  obtain ⟨t, ht⟩ := exists_next_of_inbound (i := .rxAck p) rfl hw
  refine ⟨t, ht, fun n hn => ?next, fun hstep hverify => ?last⟩
  case next =>
    have hnext : nextStep s.seq.verify s.seq.step = some n ∧ n ≠ .pollFixConfig := by
      rcases hn with ⟨hstep, rfl⟩ | ⟨hstep, rfl⟩ | ⟨hstep, hverify, rfl⟩
      · rw [hstep]; exact ⟨rfl, nofun⟩
      · rw [hstep]; exact ⟨rfl, nofun⟩
      · rw [hstep, hverify]; exact ⟨rfl, nofun⟩
    exact delivered_of_seqOnMsg ht rfl hw hmode rfl fun f lf lm k x =>
      (hack f lf lm k x).trans (State.stepOk_command (s := s.recorded f lf lm k x) hrate hfix hnext.1 hnext.2)
  case last =>
    exact delivered_of_seqOnMsg ht rfl hw hmode rfl fun f lf lm k x =>
      (hack f lf lm k x).trans (State.stepOk_last (s := s.recorded f lf lm k x) hstep hverify)

/-- Settles O38: the step is acknowledged, and each finding of its check (`State.checkRate`) leads to the same next step
(`State.stepOk_pollRate`). That the message is an instruction of its own, whatever the framer was doing, is the model's
reading (entries 1, 18 and 22). -/
theorem ackOfPollRate : Obligations.AckOfPollRate := by
  unfold Obligations.AckOfPollRate
  intro s extra hmode hstep hmax expected warn warning
  have hw : (Instr.rxAck (0x06 :: 0x08 :: extra)).wellFormed s.par = true := by simp [Instr.wellFormed, hmax]
  obtain ⟨t, ht⟩ := exists_next_of_inbound rfl hw
  refine ⟨t, ht, delivered_of_seqOnMsg ht rfl hw hmode (List.append_assoc ..) fun f lf lm n x => ?_⟩
  have hexpected : requestedRate s.seq.preset = expected := by
    simp only [expected]
    cases s.seq.preset <;> rfl
  have hcheck : (s.recorded f lf lm n x).checkRate =
      { s.recorded f lf lm n x with seq.warnRate := warn, out := x ++ warning } := by
    simp only [warn, warning]
    cases hread : s.seq.rbRate with
    | none => exact State.checkRate_of_none (s := s.recorded f lf lm n x) hread
    | some r =>
      by_cases hr : r = expected
      · rw [if_neg nofun, if_pos (congrArg some hr)]
        simp only [if_pos hr, List.append_nil]
        exact State.checkRate_of_requested (s := s.recorded f lf lm n x) hread (hr.trans hexpected.symm)
      · rw [if_neg nofun, if_neg (fun h => hr (Option.some.inj h))]
        simp only [if_neg hr]
        exact State.checkRate_of_other (s := s.recorded f lf lm n x) hread (fun h => hr (h.trans hexpected))
  have hkey : ((0x06, 0x08) : Byte × Byte) = stepKey (s.recorded f lf lm n x).seq.step :=
    (congrArg stepKey hstep).symm
  refine (State.seqOnMsg_ack hkey).trans ((State.stepOk_pollRate (s := s.recorded f lf lm n x) hstep hcheck).trans ?_)
  rw [List.append_assoc]
  rfl

/-- Settles O39: the step is acknowledged, and each finding of its check (`State.checkMsg`) completes the run
(`State.stepOk_pollFixConfig`). That the message is an instruction of its own, whatever the framer was doing, is the
model's reading (entries 1, 18 and 22). -/
theorem ackOfPollFixConfig : Obligations.AckOfPollFixConfig := by
  unfold Obligations.AckOfPollFixConfig
  intro s extra hmode hstep hmax warn warning
  have hw : (Instr.rxAck (0x06 :: 0x01 :: extra)).wellFormed s.par = true := by simp [Instr.wellFormed, hmax]
  obtain ⟨t, ht⟩ := exists_next_of_inbound rfl hw
  refine ⟨t, ht, delivered_of_seqOnMsg ht rfl hw hmode (List.append_assoc ..) fun f lf lm n x => ?_⟩
  have hcheck : (s.recorded f lf lm n x).checkMsg =
      { s.recorded f lf lm n x with seq.warnMsg := warn, out := x ++ warning } := by
    simp only [warn, warning]
    cases hread : s.seq.rbMsg with
    | none => exact State.checkMsg_of_none (s := s.recorded f lf lm n x) hread
    | some m =>
      cases hm : m.enabled with
      | true =>
        simp only [hm, if_true, List.append_nil]
        exact State.checkMsg_of_enabled (s := s.recorded f lf lm n x) hread hm
      | false =>
        simp only [hm]
        exact State.checkMsg_of_disabled (s := s.recorded f lf lm n x) hread hm
  have hkey : ((0x06, 0x01) : Byte × Byte) = stepKey (s.recorded f lf lm n x).seq.step :=
    (congrArg stepKey hstep).symm
  refine (State.seqOnMsg_ack hkey).trans
    ((State.stepOk_pollFixConfig (s := s.recorded f lf lm n x) hstep hcheck).trans ?_)
  rw [List.append_assoc]
  rfl

/-- Settles O40: the step that answers the key fails (`State.seqOnMsg_nack`), which is written out
(`State.stepFailed_eq_afterStepFailed`). That the message is an instruction of its own, whatever the framer was doing,
is the model's reading (entries 1, 18 and 22). -/
theorem nackRetriesThenFails : Obligations.NackRetriesThenFails := by
  unfold Obligations.NackRetriesThenFails
  intro s extra hmode hmax p
  have hw : (Instr.rxNack p).wellFormed s.par = true := by simp [Instr.wellFormed, p, hmax]
  have hfailed : ∀ f lf lm n x, (s.recorded f lf lm n x).seqOnMsg (.nack (decodeEcho p)) =
      (s.recorded f lf lm n x).afterStepFailed .nackReceived :=
    fun f lf lm n x => (State.seqOnMsg_nack (s := s.recorded f lf lm n x) rfl).trans
      (State.stepFailed_eq_afterStepFailed _ _)
  obtain ⟨t, ht⟩ := exists_next_of_inbound rfl hw
  refine ⟨t, ht, ?_⟩
  unfold State.afterStepFailed at hfailed ⊢
  by_cases hr : s.seq.retries = 0
  · rw [if_pos hr]
    exact delivered_of_seqOnMsg ht rfl hw hmode rfl fun f lf lm n x => (hfailed f lf lm n x).trans (if_pos hr)
  · rw [if_neg hr]
    exact delivered_of_seqOnMsg ht rfl hw hmode rfl fun f lf lm n x => (hfailed f lf lm n x).trans (if_neg hr)

/-- Settles O41: the poll step keeps the record of its message (R215, R216). That a message is an instruction of its
own, whatever the framer was doing, is the model's reading (entries 1, 18 and 22). -/
theorem readBackCaptured : Obligations.ReadBackCaptured := by
  unfold Obligations.ReadBackCaptured
  intro s p hmode hmax
  refine ⟨fun hstep hmin => ?rate, fun hstep hmin hcls hid => ?msg⟩
  case rate =>
    have hw : (Instr.rxRateConfig p).wellFormed s.par = true := by simp [Instr.wellFormed, hmin, hmax]
    obtain ⟨t, ht⟩ := exists_next_of_inbound rfl hw
    refine ⟨t, ht, delivered_of_seqOnMsg ht rfl hw hmode (List.append_nil _).symm fun f lf lm n x => ?_⟩
    rw [List.append_nil]
    exact if_pos hstep
  case msg =>
    have hw : (Instr.rxMsgEnableConfig p).wellFormed s.par = true := by simp [Instr.wellFormed, hmin, hmax]
    obtain ⟨t, ht⟩ := exists_next_of_inbound rfl hw
    refine ⟨t, ht, delivered_of_seqOnMsg ht rfl hw hmode (List.append_nil _).symm fun f lf lm n x => ?_⟩
    rw [List.append_nil]
    exact if_pos ⟨hstep, hcls, hid⟩

/-! ### START_SEQ, TICK and CANCEL -/

/-- Settles O43: START_SEQ runs where no run or stream is on (`exec_startSeq_of_mode`), and else its word is refused. -/
theorem startSeqEffect : Obligations.StartSeqEffect := by
  unfold Obligations.StartSeqEffect
  intro s p v
  by_cases hmode : s.mode = .idle ∨ s.mode = .stopped
  · rw [if_pos hmode]
    exact exec_startSeq_of_mode hmode p v
  · rw [if_neg hmode]
    have hrefused : exec (.startSeq p v) s = .next (s.refuse (eventWord 0x4 (startSeqData p v))) :=
      if_neg (by simpa [State.seqMayStart_eq] using hmode)
    rw [hrefused]
    cases p <;> cases v <;> rfl

/-- Settles O45: the two timers, each below its limit and at it (R218, 45_stream.md R253). -/
theorem tickEffect : Obligations.TickEffect := by
  unfold Obligations.TickEffect
  intro s
  refine ⟨?outside, fun hmode hwait => ?counts, fun hmode hwait => ?timesOut, fun hmode hidle => ?idles,
    fun hmode hidle => ?stops⟩
  case outside => rintro (hmode | hmode) <;> simp only [exec, execTick, hmode]
  case counts => simp only [exec, execTick, hmode, State.seqTick, if_neg (BitVec.not_le.2 hwait)]
  case timesOut =>
    simp only [exec, execTick, hmode, State.seqTick, if_pos hwait, State.stepFailed_eq_afterStepFailed]
  case idles => simp only [exec, execTick, hmode, State.streamTick, if_neg (BitVec.not_le.2 hidle)]
  case stops =>
    simp only [exec, execTick, hmode, State.streamTick, if_pos hidle]
    rfl

/-- Settles O46: by the mode, one update of the state each (R224, 45_stream.md R255). -/
theorem cancelEffect : Obligations.CancelEffect := by
  unfold Obligations.CancelEffect
  intro s
  refine ⟨?outside, fun hmode => ?startup, fun hmode => ?stream⟩
  case outside => rintro (hmode | hmode) <;> simp only [exec, execCancel, hmode]
  case startup =>
    simp only [exec, execCancel, hmode]
    rfl
  case stream =>
    simp only [exec, execCancel, hmode]
    rfl

end Sys2Proof.Machine
end

section
/-! PROOF. The bounds of a startup run (family 44_sequencer.md, R229; 70_reset_and_hazards.md R306). What an event does
to a run is read from a few registers, its `RunView`: the run waits, sends once more, or ends (`RunView.Step`). The sends
a run has left then bound its frames, and the ticks they may take bound its length. -/

namespace Sys2Proof.Machine

variable {s t : State}

/-! ### What a run's progress is read from -/

/-- The registers the progress of a startup run is read from, its time-out, and the number of frames sent so far. -/
structure RunView where
  mode : Mode
  state : SeqState
  step : SeqStep
  verify : Bool
  retries : Nat
  wait : U32
  ackTimeout : U32
  sent : Nat

/-- The view of a state. -/
def State.runView (s : State) : RunView where
  mode := s.mode
  state := s.seq.state
  step := s.seq.step
  verify := s.seq.verify
  retries := s.seq.retries
  wait := s.seq.wait
  ackTimeout := s.par.ackTimeout
  sent := s.out.countP OutEvent.isTxFrame

/-- How many steps of the sequence follow a step (R211). -/
def stepsAfter (verify : Bool) : SeqStep → Nat
  | .setProtocolFilter => if verify then 4 else 2
  | .setRate => if verify then 3 else 1
  | .enableFixOutput => if verify then 2 else 0
  | .pollRate => 1
  | .pollFixConfig => 0

theorem stepsAfter_of_nextStep {v : Bool} {x n : SeqStep} (h : nextStep v x = some n) :
    stepsAfter v x = stepsAfter v n + 1 := by
  cases x with
  | setProtocolFilter | setRate => cases h; cases v <;> rfl
  | enableFixOutput =>
    cases v with
    | false => cases h
    | true => cases h; rfl
  | pollRate => cases h; rfl
  | pollFixConfig => cases h

/-- How many more frames a run can send: the retry of its step if that is unused, and two for each later step (R219). -/
def RunView.sendsLeft (r : RunView) : Nat :=
  if r.mode = .startup then 2 * stepsAfter r.verify r.step + (retryLimit - r.retries) else 0

/-- How many ticks a run can last: each send, the last one among them, waits for at most the time-out (R218). -/
def RunView.ticksLeft (r : RunView) : Nat := (r.sendsLeft + 1) * r.ackTimeout.toNat - r.wait.toNat

/-- The run sends a command: it has one send fewer left, and its wait starts anew (R212). -/
structure RunView.Sends (r r' : RunView) : Prop where
  mode : r'.mode = .startup
  wait : r'.wait = 0
  ackTimeout : r'.ackTimeout = r.ackTimeout
  left : r'.sendsLeft < r.sendsLeft
  sent : r'.sent = r.sent + 1

/-- The run is over, and nothing was sent (R217, R222, R224). -/
structure RunView.Ends (r r' : RunView) : Prop where
  mode : r'.mode = .idle
  state : r'.state = .done ∨ r'.state = .failed ∨ r'.state = .cancelled
  sent : r'.sent = r.sent

/-- All that an event does to a startup run. -/
inductive RunView.Step (r : RunView) (i : Instr) (r' : RunView) : Prop where
  | waits (hi : i ≠ .tick) (h : r' = r)
  | counts (hi : i = .tick) (h : r' = { r with wait := r.wait + 1 })
  | sends (h : r.Sends r')
  | ends (h : r.Ends r')
  | reset (hi : i = .reset) (hmode : r'.mode = .idle) (hsent : r'.sent = r.sent)

/-! ### What the view does not see -/

theorem State.runView_emit {e : OutEvent} (he : e.isTxFrame = false) (s : State) :
    (s.emit e).runView = s.runView := by
  simp [State.runView, he]

theorem State.runView_noteByte (s : State) : s.noteByte.runView = s.runView := by
  simp [State.runView]

theorem State.runView_refuse (s : State) (w : U16) : (s.refuse w).runView = s.runView :=
  State.runView_emit rfl (State.raise .illegalEvent { s with cnt.illegal := s.cnt.illegal + 1 })

theorem State.runView_rejectFrame (s : State) (b : Byte) : (s.rejectFrame b).runView = s.runView := by
  simp [State.runView, OutEvent.isTxFrame]

theorem State.runView_transportFailed (s : State) : s.transportFailed.runView = s.runView := by
  simp [State.runView, OutEvent.isTxFrame]

theorem State.runView_stopStream (s : State) (r : StopReason) :
    (s.stopStream r).runView = { s.runView with mode := .stopped } := by
  simp [State.runView, OutEvent.isTxFrame]

theorem WarningOutput.countP_isTxFrame {n : SeqStep} {w : List OutEvent} (h : WarningOutput n w) :
    w.countP OutEvent.isTxFrame = 0 := by
  cases h <;> rfl

/-- The check of a read-back sends nothing (R226, R227). -/
theorem State.runView_checkReadback (s : State) : s.checkReadback.runView = s.runView := by
  obtain ⟨w, hw, hwarn⟩ := s.checkReadback_output
  simp [State.runView, hw, hwarn.countP_isTxFrame]

/-! ### The sequencer's operations -/

variable {i : Instr}

theorem State.step_enterStep {n : SeqStep} (hmode : s.mode = .startup)
    (hn : nextStep s.seq.verify s.seq.step = some n) : s.runView.Step i (s.enterStep n).runView := by
  refine .sends ⟨hmode, rfl, rfl, ?left, ?sent⟩
  case left =>
    have hafter := stepsAfter_of_nextStep hn
    simp only [RunView.sendsLeft, State.runView, State.enterStep_mode, hmode, if_true, State.enterStep_seq_verify,
      State.enterStep_seq_step, State.enterStep_seq_retries, retryLimit]
    omega
  case sent => simp [State.runView, OutEvent.isTxFrame]

/-- An acknowledged step sends the next one's command or completes the run (R214, R217). -/
theorem State.step_stepOk (hmode : s.mode = .startup) : s.runView.Step i s.stepOk.runView := by
  have hview : (s.checkReadback.emit (.seqStepOk s.seq.step)).runView = s.runView :=
    (State.runView_emit rfl _).trans s.runView_checkReadback
  rcases s.stepOk_cases with ⟨n, hn, e⟩ | ⟨_, e⟩
  · rw [e, ← hview]
    exact State.step_enterStep (by simpa using hmode) (by simpa using hn)
  · rw [e, ← hview]
    exact .ends ⟨rfl, .inl rfl, by simp [State.runView, OutEvent.isTxFrame]⟩

/-- A failed step sends its command again or fails the run, whatever the wait stood at (R219, R220, R222). -/
theorem State.step_stepFailed (hmode : s.mode = .startup) (n : U32) (r : FailReason) :
    s.runView.Step i (State.stepFailed r { s with seq.wait := n }).runView := by
  rcases State.stepFailed_cases { s with seq.wait := n } r with ⟨hr, e⟩ | ⟨_, e⟩
  · rw [e]
    refine .sends ⟨hmode, rfl, rfl, ?left, ?sent⟩
    case left =>
      have hr : s.seq.retries < 1 := hr
      simp [RunView.sendsLeft, State.runView, hmode, retryLimit]
      omega
    case sent => simp [State.runView, OutEvent.isTxFrame]
  · rw [e]
    exact .ends ⟨rfl, .inr (.inl rfl), by simp [State.runView, OutEvent.isTxFrame]⟩

theorem State.step_seqOnMsg (hmode : s.mode = .startup) (hi : i ≠ .tick) (m : DecodedMessage) :
    s.runView.Step i (s.seqOnMsg m).runView := by
  rcases s.seqOnMsg_cases m with e | ⟨_, _, _, e⟩ | ⟨_, _, _, e⟩ | ⟨_, _, _, e⟩ | ⟨_, _, _, _, _, e⟩ <;> rw [e]
  · exact .waits hi rfl
  · exact State.step_stepOk hmode
  · exact State.step_stepFailed hmode s.seq.wait _
  · exact .waits hi rfl
  · exact .waits hi rfl

/-! ### The events -/

theorem State.step_acceptFrame (hmode : s.mode = .startup) (hi : i ≠ .tick) (f : RawFrame) (m : DecodedMessage) :
    s.runView.Step i (s.acceptFrame f m).runView := by
  have hview : (((s.recordFrame f m).emit (.frameOk f)).emit (.msg m)).runView = s.runView :=
    (State.runView_emit rfl _).trans (State.runView_emit rfl _)
  rw [← hview, State.acceptFrame, State.route_startup (by exact hmode)]
  exact State.step_seqOnMsg (by exact hmode) hi m

theorem State.step_framerByte {b : Byte} (hmode : s.mode = .startup) (hi : i ≠ .tick)
    (h : s.framerByte b = .next t) : s.runView.Step i t.runView := by
  rcases s.framerByte_effect h with e | e | ⟨_, f, m, rfl⟩ | ⟨_, rfl⟩
  · exact .waits hi (by rw [e]; rfl)
  · exact .waits hi (by rw [e]; rfl)
  · exact State.step_acceptFrame hmode hi f m
  · exact .waits hi (s.runView_rejectFrame b)

theorem State.step_tick (hmode : s.mode = .startup) (h : execTick s = .next t) : s.runView.Step .tick t.runView := by
  rcases execTick_cases h with ⟨hout, _⟩ | ⟨_, _, rfl⟩ | ⟨_, _, rfl⟩ | ⟨hstream, _⟩ | ⟨hstream, _⟩
  · rcases hout with e | e <;> cases hmode.symm.trans e
  · exact .counts rfl rfl
  · exact State.step_stepFailed hmode _ _
  · cases hmode.symm.trans hstream
  · cases hmode.symm.trans hstream

theorem State.step_cancel (hmode : s.mode = .startup) (h : execCancel s = .next t) : s.runView.Step i t.runView := by
  rcases execCancel_cases h with ⟨hout, _⟩ | ⟨_, rfl⟩ | ⟨hstream, _⟩
  · rcases hout with e | e <;> cases hmode.symm.trans e
  · exact .ends ⟨rfl, .inr (.inr rfl), by simp [State.runView, OutEvent.isTxFrame]⟩
  · cases hmode.symm.trans hstream

/-- All that an event word does to a startup run. -/
theorem exec_word_step {w : U16} (hmode : s.mode = .startup) (h : exec (decodeWord w) s = .next t) :
    s.runView.Step (decodeWord w) t.runView := by
  rcases exec_word_cases h with ⟨b, hi, hb⟩ | ⟨w', hlegal, _, rfl⟩ | ⟨hi, he⟩ | ⟨hi, he⟩ | ⟨p, v, _, hout, _⟩ |
    ⟨_, hout, _⟩ | ⟨_, he⟩ | ⟨hi, he⟩
  · rw [hi, ← s.runView_noteByte] -- RX_BYTE
    exact State.step_framerByte (s.noteByte_mode.trans hmode) nofun hb
  · refine .waits (fun hi => ?_) (s.runView_refuse w') -- a refused word
    rw [hi] at hlegal
    cases hlegal
  · rcases execRxError_cases he with ⟨hstream, _⟩ | ⟨_, rfl⟩ -- RX_ERROR
    · cases hmode.symm.trans hstream
    · exact .waits (by rw [hi]; nofun) s.runView_transportFailed
  · rw [hi] -- TICK
    exact State.step_tick hmode he
  · rcases hout with e | e <;> cases hmode.symm.trans e -- START_SEQ, which is refused
  · rcases hout with e | e <;> cases hmode.symm.trans e -- START_STREAM, which is refused
  · exact State.step_cancel hmode he -- CANCEL
  · cases he -- RESET
    exact .reset hi rfl rfl

/-! ### The words of a run -/

/-- No two words decode alike (30_encoding.md R95, R96). -/
theorem decodeWord_injective : Function.Injective decodeWord := fun w w' h => by
  have hw := encodeDecodeWord Params.hardware w
  rw [h, encodeDecodeWord] at hw
  exact (Code.event.inj hw).symm

theorem decodeWord_eq_tick_iff {w : U16} : decodeWord w = .tick ↔ w = tickWord :=
  decodeWord_injective.eq_iff (b := tickWord)

theorem decodeWord_eq_reset_iff {w : U16} : decodeWord w = .reset ↔ w = resetWord :=
  decodeWord_injective.eq_iff (b := resetWord)

/-- A word that decodes to START_SEQ has its operation (30_encoding.md R95). -/
theorem shift_of_decodeWord_eq_startSeq {w : U16} {p : Preset} {v : Bool} (h : decodeWord w = .startSeq p v) :
    w >>> 12 = (0x4 : U16) := by
  have hw := encodeDecodeWord Params.hardware w
  rw [h] at hw
  rw [← Code.event.inj hw, eventWord_shift]
  rfl

/-! ### Outside STARTUP -/

/-- An event leaves the block outside STARTUP and sends nothing. -/
structure RunView.Rests (r r' : RunView) : Prop where
  mode : r'.mode ≠ .startup
  sent : r'.sent = r.sent

theorem RunView.Rests.of_eq {r r' : RunView} (hmode : r.mode ≠ .startup) (h : r' = r) : r.Rests r' :=
  ⟨h ▸ hmode, h ▸ rfl⟩

theorem State.runView_route (hmode : s.mode ≠ .startup) (m : DecodedMessage) : (s.route m).runView = s.runView := by
  rcases s.route_cases m with e | ⟨hstartup, _⟩ | ⟨_, _, _, e⟩
  · rw [e]
  · exact absurd hstartup hmode
  · rw [e]
    exact State.runView_emit rfl { s with stream := _ }

theorem State.runView_framerByte {b : Byte} (hmode : s.mode ≠ .startup) (h : s.framerByte b = .next t) :
    t.runView = s.runView := by
  rcases s.framerByte_effect h with e | e | ⟨_, f, m, rfl⟩ | ⟨_, rfl⟩
  · rw [e]; rfl
  · rw [e]; rfl
  · calc (s.acceptFrame f m).runView
      _ = (((s.recordFrame f m).emit (.frameOk f)).emit (.msg m)).runView := State.runView_route (by exact hmode) m
      _ = ((s.recordFrame f m).emit (.frameOk f)).runView := State.runView_emit rfl _
      _ = s.runView := State.runView_emit rfl _
  · exact s.runView_rejectFrame b

/-- Outside STARTUP no event but START_SEQ sends a frame or begins a run (R213, R229). -/
theorem exec_word_rests {w : U16} (hmode : s.mode ≠ .startup) (hstart : ∀ p v, decodeWord w ≠ .startSeq p v)
    (h : exec (decodeWord w) s = .next t) : s.runView.Rests t.runView := by
  rcases exec_word_cases h with ⟨b, _, hb⟩ | ⟨w', _, _, rfl⟩ | ⟨_, he⟩ | ⟨_, he⟩ | ⟨p, v, hi, _⟩ |
    ⟨_, _, _, rfl⟩ | ⟨_, he⟩ | ⟨_, he⟩
  · rw [← s.runView_noteByte] -- RX_BYTE
    have hmode : s.noteByte.mode ≠ .startup := s.noteByte_mode ▸ hmode
    exact .of_eq hmode (State.runView_framerByte hmode hb)
  · exact .of_eq hmode (s.runView_refuse w') -- a refused word
  · rcases execRxError_cases he with ⟨_, rfl⟩ | ⟨_, rfl⟩ -- RX_ERROR
    · rw [State.runView_stopStream, State.runView_transportFailed]
      exact ⟨nofun, rfl⟩
    · exact .of_eq hmode s.runView_transportFailed
  · rcases execTick_cases he with ⟨_, rfl⟩ | ⟨e, _⟩ | ⟨e, _⟩ | ⟨_, _, rfl⟩ | ⟨_, _, rfl⟩ -- TICK
    · exact ⟨hmode, rfl⟩
    · exact absurd e hmode
    · exact absurd e hmode
    · exact ⟨hmode, rfl⟩
    · rw [State.runView_stopStream]
      exact ⟨nofun, rfl⟩
  · exact absurd hi (hstart p v) -- START_SEQ
  · exact ⟨nofun, by simp [State.runView, OutEvent.isTxFrame]⟩ -- START_STREAM
  · rcases execCancel_cases he with ⟨_, rfl⟩ | ⟨e, _⟩ | ⟨_, rfl⟩ -- CANCEL
    · exact ⟨hmode, rfl⟩
    · exact absurd e hmode
    · rw [State.runView_stopStream]
      exact ⟨nofun, rfl⟩
  · cases he -- RESET
    exact ⟨nofun, rfl⟩

/-! ### The frames of a run -/

theorem RunView.sendsLeft_of_not_startup {r : RunView} (h : r.mode ≠ .startup) : r.sendsLeft = 0 := if_neg h

/-- What a START_SEQ leaves to send: after its own frame, a retry and two frames for each later step (R213, R219). -/
theorem State.sendsLeft_startSequence (s : State) (p : Preset) (v : Bool) :
    (s.startSequence p v).runView.sendsLeft + 1 = if v then 10 else 6 := by
  cases v <;> rfl

/-- Every frame of a run is one of those it had left. -/
theorem RunView.Step.sent_add_sendsLeft_le {r r' : RunView} {i : Instr} (h : r.Step i r') :
    r'.sent + r'.sendsLeft ≤ r.sent + r.sendsLeft := by
  cases h with
  | waits _ h => rw [h]
  | counts _ h => rw [h]; exact le_rfl
  | sends h =>
    have hleft := h.left
    have hsent := h.sent
    omega
  | ends h =>
    rw [h.sent, sendsLeft_of_not_startup (by rw [h.mode]; nofun)]
    exact Nat.le_add_right _ _
  | reset _ hmode hsent =>
    rw [hsent, sendsLeft_of_not_startup (by rw [hmode]; nofun)]
    exact Nat.le_add_right _ _

theorem RunView.Rests.sent_add_sendsLeft_le {r r' : RunView} (h : r.Rests r') :
    r'.sent + r'.sendsLeft ≤ r.sent + r.sendsLeft := by
  rw [h.sent, sendsLeft_of_not_startup h.mode]
  exact Nat.le_add_right _ _

/-- A run of words that begins no other startup run sends no frame but those left. -/
theorem runEvents_sent_le {ws : List U16} (hws : noNewRun ws s) (h : runEvents ws s = .next t) :
    t.runView.sent + t.runView.sendsLeft ≤ s.runView.sent + s.runView.sendsLeft := by
  induction ws generalizing s with
  | nil =>
    cases h
    exact le_rfl
  | cons w ws ih =>
    obtain ⟨hop, hrest⟩ := hws
    rw [runEvents] at h
    cases hu : exec (decodeWord w) s with
    | fault r => rw [hu] at h; cases h
    | refused r => rw [hu] at h; cases h
    | next u =>
      rw [hu] at h
      refine (ih (hrest u hu) h).trans ?_
      by_cases hmode : s.mode = .startup
      · exact (exec_word_step hmode hu).sent_add_sendsLeft_le
      · exact (exec_word_rests hmode (fun p v hi => hop hmode (shift_of_decodeWord_eq_startSeq hi))
          hu).sent_add_sendsLeft_le

/-- Settles O60: START_SEQ sends one frame and leaves nine or five (`State.sendsLeft_startSequence`), and the run sends
no others (`runEvents_sent_le`). -/
theorem boundedSends : Obligations.BoundedSends := by
  unfold Obligations.BoundedSends
  intro s s1 t p v ws hmode hstart hws hrun
  cases (exec_startSeq_of_mode hmode p v).symm.trans hstart
  have hbound := runEvents_sent_le hws hrun
  have hfirst : (s.startSequence p v).runView.sent = s.runView.sent + 1 := by
    simp [State.runView, OutEvent.isTxFrame]
  have hleft := s.sendsLeft_startSequence p v
  change t.runView.sent ≤ s.runView.sent + _
  omega

/-! ### No word stops the block -/

/-- The framer has a next state for every byte (60_exceptions.md R281; entries 7 and 8). -/
theorem State.FramerInv.exists_next_framerByte (h : s.FramerInv) (b : Byte) : ∃ t, s.framerByte b = .next t := by
  cases hfs : s.framer.fs with
  | seeking => exact ⟨_, State.framerByte_seeking hfs⟩
  | envelope =>
    rw [State.framerByte_envelope hfs]
    have hidx : s.framer.fIdx = 0 ∨ s.framer.fIdx = 1 ∨ s.framer.fIdx = 2 ∨ s.framer.fIdx = 3 := by
      have := h.envelope hfs
      bv_omega
    rcases hidx with e | e | e | e
    · exact ⟨_, State.envelope_zero e⟩
    · exact ⟨_, State.envelope_one e⟩
    · exact ⟨_, State.envelope_two e⟩
    · exact ⟨_, State.envelope_three e⟩
  | payload =>
    obtain ⟨hidx, hlen⟩ := h.payload hfs
    have hinside : s.framer.fIdx.toNat < s.par.maxPayload := (BitVec.lt_def.1 hidx).trans_le hlen
    rw [State.framerByte_payload hfs, State.payloadByte, if_pos hinside]
    dsimp only
    split <;> exact ⟨_, rfl⟩
  | checksum =>
    obtain ⟨hidx, hlen⟩ := h.checksum hfs
    rw [State.framerByte_checksum hfs]
    have hidx : s.framer.fIdx = 0 ∨ s.framer.fIdx = 1 := by bv_omega
    rcases hidx with e | e
    · exact ⟨_, State.checksumByte_zero e⟩
    · rw [State.checksumByte_one e, State.checksumSecond, if_pos hlen]
      dsimp only
      split <;> exact ⟨_, rfl⟩

/-- From a state of the invariant every event word has a next state (60_exceptions.md R277, R281). -/
theorem State.Inv.exists_next_word (h : s.Inv) (w : U16) : ∃ t, exec (decodeWord w) s = .next t := by
  cases hi : decodeWord w with
  | rxByte b =>
    exact State.FramerInv.exists_next_framerByte (h.framer.congr s.noteByte_framer s.noteByte_par) b
  | rxError => simp only [exec, execRxError]; split <;> exact ⟨_, rfl⟩
  | tick => simp only [exec, execTick]; split <;> exact ⟨_, rfl⟩
  | startSeq p v => simp only [exec, execStartSeq]; split <;> exact ⟨_, rfl⟩
  | startStream => simp only [exec, execStartStream]; split <;> exact ⟨_, rfl⟩
  | cancel => simp only [exec, execCancel]; split <;> exact ⟨_, rfl⟩
  | rxFixRecord | rxRateConfig | rxMsgEnableConfig | rxAck | rxNack | rxUnrecognized =>
    have hw := encodeDecodeWord s.par w -- a wire message is no event word
    rw [hi] at hw
    cases hw
  | _ => exact ⟨_, rfl⟩

/-! ### The ticks of a run -/

/-- The ticks left are those of the sends left and the rest of the current wait (R218). -/
theorem RunView.ticksLeft_eq {r : RunView} (hwait : r.wait < r.ackTimeout) :
    r.ticksLeft = r.sendsLeft * r.ackTimeout.toNat + (r.ackTimeout.toNat - r.wait.toNat) := by
  have hwait : r.wait.toNat < r.ackTimeout.toNat := BitVec.lt_def.1 hwait
  rw [RunView.ticksLeft, Nat.add_mul, Nat.one_mul, Nat.add_sub_assoc hwait.le]

theorem RunView.ticksLeft_pos {r : RunView} (hwait : r.wait < r.ackTimeout) : 0 < r.ticksLeft := by
  rw [RunView.ticksLeft_eq hwait]
  have := BitVec.lt_def.1 hwait
  omega

/-- A tick that is counted is one of those left. -/
theorem RunView.ticksLeft_counted {r : RunView} (hwait : r.wait < r.ackTimeout) :
    RunView.ticksLeft { r with wait := r.wait + 1 } + 1 = r.ticksLeft := by
  have hsum : (r.wait + 1).toNat = r.wait.toNat + 1 := by bv_omega
  have hpos := RunView.ticksLeft_pos hwait
  change (r.sendsLeft + 1) * r.ackTimeout.toNat - (r.wait + 1).toNat + 1 = r.ticksLeft
  rw [hsum]
  rw [RunView.ticksLeft] at hpos ⊢
  omega

/-- A send, whatever event makes it, uses up the ticks of the one before, of which one at least is left. -/
theorem RunView.Sends.ticksLeft_lt {r r' : RunView} (h : r.Sends r') (hwait : r.wait < r.ackTimeout) :
    r'.ticksLeft < r.ticksLeft := by
  have hlt := BitVec.lt_def.1 hwait
  calc r'.ticksLeft
    _ = (r'.sendsLeft + 1) * r.ackTimeout.toNat := by rw [RunView.ticksLeft, h.wait, h.ackTimeout]; rfl
    _ ≤ r.sendsLeft * r.ackTimeout.toNat := Nat.mul_le_mul_right _ h.left
    _ < r.ticksLeft := by rw [RunView.ticksLeft_eq hwait]; omega

/-- The run has ended, or it goes on with fewer ticks left if this was one, and no more if it was not. -/
theorem RunView.Step.ends_or_ticksLeft_le {r r' : RunView} {i : Instr} (h : r.Step i r') (hi : i ≠ .reset)
    (hmode : r.mode = .startup) (hwait : r.wait < r.ackTimeout) :
    r.Ends r' ∨ (r'.mode = .startup ∧ r'.ticksLeft + (if i = .tick then 1 else 0) ≤ r.ticksLeft) := by
  cases h with
  | ends h => exact .inl h
  | reset he _ _ => exact absurd he hi
  | waits hi h =>
    rw [h, if_neg hi]
    exact .inr ⟨hmode, le_rfl⟩
  | counts hi h =>
    rw [h, if_pos hi]
    exact .inr ⟨hmode, (RunView.ticksLeft_counted hwait).le⟩
  | sends h =>
    have hlt := h.ticksLeft_lt hwait
    refine .inr ⟨h.mode, ?_⟩
    split <;> omega

theorem State.startupFinished_of_ends {r : RunView} (h : r.Ends t.runView) : t.startupFinished = true := by
  have hstate : t.seq.state = .done ∨ t.seq.state = .failed ∨ t.seq.state = .cancelled := h.state
  unfold State.startupFinished
  rcases hstate with e | e | e <;> rw [e]

theorem tickCount_cons (w : U16) (ws : List U16) :
    tickCount (w :: ws) = tickCount ws + if decodeWord w = .tick then 1 else 0 := by
  simp [tickCount, List.countP_cons, decodeWord_eq_tick_iff]

/-- A run that waits is finished by some of the words, and the ticks it has left are enough for them. -/
theorem exists_finished_of_ticksLeft_le {ws : List U16} (h : s.Inv) (hmode : s.mode = .startup)
    (hws : resetWord ∉ ws) (hticks : s.runView.ticksLeft ≤ tickCount ws) :
    ∃ (ws1 ws2 : List U16) (t : State), ws = ws1 ++ ws2 ∧ runEvents ws1 s = .next t ∧
      t.startupFinished = true ∧ tickCount ws1 ≤ s.runView.ticksLeft := by
  induction ws generalizing s with
  | nil =>
    have hpos := RunView.ticksLeft_pos (r := s.runView) (h.sequencer.wait (h.await hmode))
    exact absurd hticks (Nat.not_le.2 hpos)
  | cons w ws ih =>
    have hwait : s.runView.wait < s.runView.ackTimeout := h.sequencer.wait (h.await hmode)
    obtain ⟨hw, hws⟩ := not_or.1 (List.mem_cons.not.1 hws)
    have hreset : decodeWord w ≠ .reset := fun e => hw (decodeWord_eq_reset_iff.1 e).symm
    obtain ⟨t, ht⟩ := h.exists_next_word w
    have hrun : ∀ ws1, runEvents (w :: ws1) s = runEvents ws1 t := fun ws1 => by rw [runEvents, ht]
    rw [tickCount_cons] at hticks
    rcases (exec_word_step hmode ht).ends_or_ticksLeft_le hreset hmode hwait with hends | ⟨htmode, hle⟩
    · refine ⟨[w], ws, t, rfl, hrun [], State.startupFinished_of_ends hends, ?_⟩
      have hpos := RunView.ticksLeft_pos hwait
      rw [tickCount_cons]
      change 0 + _ ≤ _
      split <;> omega
    · obtain ⟨ws1, ws2, u, rfl, hu, hfinished, hcount⟩ := ih (h.exec_word ht) htmode hws (by omega)
      refine ⟨w :: ws1, ws2, u, rfl, (hrun ws1).trans hu, hfinished, ?_⟩
      rw [tickCount_cons]
      omega

/-- Settles O59: START_SEQ leaves as many ticks as its sends may take (`State.sendsLeft_startSequence`), and the run is
finished within them (`exists_finished_of_ticksLeft_le`). -/
theorem boundedStartup : Obligations.BoundedStartup := by
  unfold Obligations.BoundedStartup
  intro s s1 p v ws h hmode hstart hws hticks
  cases (exec_startSeq_of_mode hmode p v).symm.trans hstart
  have hleft : (s.startSequence p v).runView.ticksLeft = (if v then 10 else 6) * s.par.ackTimeout.toNat := by
    rw [RunView.ticksLeft, State.sendsLeft_startSequence]
    rfl
  rw [← hleft] at hticks ⊢
  exact exists_finished_of_ticksLeft_le (h.startSequence p v) rfl hws hticks

end Sys2Proof.Machine
end

section
/-! PROOF. The stream (family 45_stream.md, R251, R252, R257, R261; 60_exceptions.md R282): where it starts, what an
event does to the published pair, and that it never runs beside the startup sequence. What is published is read from a
few registers, its `PublishView`: an event leaves it alone, or publishes the record of a valid frame
(`State.Publishes`), or is RESET. -/

namespace Sys2Proof.Machine

variable {s t : State}

/-! ### START_STREAM -/

/-- Settles O44: START_STREAM runs where no run or stream is on and no run has failed (`exec_startStream_of_mode`), and
else its word is refused. -/
theorem startStreamEffect : Obligations.StartStreamEffect := by
  unfold Obligations.StartStreamEffect
  intro s
  by_cases hlegal : (s.mode = .idle ∨ s.mode = .stopped) ∧ (s.seq.state = .notRun ∨ s.seq.state = .done)
  · rw [if_pos hlegal]
    obtain ⟨hmode, hstate⟩ := hlegal
    exact exec_startStream_of_mode hmode hstate
  · rw [if_neg hlegal]
    have hrefused : exec .startStream s = .next (s.refuse (eventWord 0x5 0)) :=
      if_neg (by simpa [State.streamMayStart_eq] using hlegal)
    exact hrefused

/-! ### What is published -/

/-- The published pair (10_state.md R42), and the number of records published so far. -/
structure PublishView where
  fixOut : Option FixRecord
  fixSeq : U32
  count : Nat

/-- The view of a state. -/
def State.publishView (s : State) : PublishView where
  fixOut := s.stream.fixOut
  fixSeq := s.stream.fixSeq
  count := s.out.countP OutEvent.isFixPublish

theorem State.publishView_emit {e : OutEvent} (he : e.isFixPublish = false) (s : State) :
    (s.emit e).publishView = s.publishView := by
  simp [State.publishView, he]

theorem State.publishView_noteByte (s : State) : s.noteByte.publishView = s.publishView := by
  simp [State.publishView]

theorem State.publishView_refuse (s : State) (w : U16) : (s.refuse w).publishView = s.publishView :=
  State.publishView_emit rfl (State.raise .illegalEvent { s with cnt.illegal := s.cnt.illegal + 1 })

theorem State.publishView_rejectFrame (s : State) (b : Byte) : (s.rejectFrame b).publishView = s.publishView := by
  simp [State.publishView, OutEvent.isFixPublish]

theorem State.publishView_transportFailed (s : State) : s.transportFailed.publishView = s.publishView := by
  simp [State.publishView, OutEvent.isFixPublish]

theorem State.publishView_stopStream (s : State) (r : StopReason) :
    (s.stopStream r).publishView = s.publishView := by
  simp [State.publishView, OutEvent.isFixPublish]

theorem State.publishView_stepFailed (s : State) (r : FailReason) : (s.stepFailed r).publishView = s.publishView := by
  rcases s.stepFailed_output r with ⟨_, e⟩ | ⟨_, e⟩ <;> simp [State.publishView, e, OutEvent.isFixPublish]

/-! ### The hand-off -/

theorem WarningOutput.countP_isFixPublish {n : SeqStep} {w : List OutEvent} (h : WarningOutput n w) :
    w.countP OutEvent.isFixPublish = 0 := by
  cases h <;> rfl

/-- Outside STREAM no message is published (R250). -/
theorem MessageOutput.countP_isFixPublish {m : DecodedMessage} {o : List OutEvent} (h : MessageOutput s m o)
    (hmode : s.mode ≠ .stream) : o.countP OutEvent.isFixPublish = 0 := by
  cases h with
  | notFix h | publish h => exact absurd h hmode
  | advance _ _ _ _ _ _ w hw | complete _ _ _ _ _ w hw =>
    simp [hw.countP_isFixPublish, OutEvent.isFixPublish]
  | outside | unanswered | retry | failed => rfl

/-- In STARTUP a message publishes nothing, whatever the sequencer makes of it (R250). -/
theorem State.publishView_seqOnMsg (hmode : s.mode = .startup) (m : DecodedMessage) :
    (s.seqOnMsg m).publishView = s.publishView := by
  obtain ⟨o, ho, hm⟩ := State.seqOnMsg_output hmode m
  simp [State.publishView, ho, hm.countP_isFixPublish (by simp [hmode])]

/-- From `s` to `t` the block publishes in STREAM the fix record `r` of the frame `f`, which it records with its message
(R251, 43_framer.md R187). -/
structure State.Publishes (s t : State) (f : RawFrame) (r : FixRecord) : Prop where
  mode : s.mode = .stream
  lastFrame : t.lastFrame = some f
  lastMsg : t.lastMsg = some (.fixRecord r)
  fixOut : t.stream.fixOut = some r
  fixSeq : t.stream.fixSeq = s.stream.fixSeq + 1
  out : t.out = s.out ++ [.frameOk f, .msg (.fixRecord r), .fixPublish r (s.stream.fixSeq + 1)]

theorem State.publishes_acceptFrame (hmode : s.mode = .stream) (f : RawFrame) (r : FixRecord) :
    s.Publishes (s.acceptFrame f (.fixRecord r)) f r where
  mode := hmode
  lastFrame := s.acceptFrame_lastFrame f _
  lastMsg := s.acceptFrame_lastMsg f _
  fixOut := by rw [State.acceptFrame_fixRecord hmode]; rfl
  fixSeq := by rw [State.acceptFrame_fixRecord hmode]; rfl
  out := by rw [State.acceptFrame_fixRecord hmode]; simp

/-- Noting the received byte (R254) is no part of what is published. -/
theorem State.Publishes.of_noteByte {f : RawFrame} {r : FixRecord} (h : s.noteByte.Publishes t f r) :
    s.Publishes t f r where
  mode := by simpa using h.mode
  lastFrame := h.lastFrame
  lastMsg := h.lastMsg
  fixOut := h.fixOut
  fixSeq := by simpa using h.fixSeq
  out := by simpa using h.out

/-- The hand-off of a frame publishes a fix record in STREAM, and else nothing (R250). -/
theorem State.acceptFrame_published (s : State) (f : RawFrame) (m : DecodedMessage) :
    (s.acceptFrame f m).publishView = s.publishView ∨ ∃ r, s.Publishes (s.acceptFrame f m) f r := by
  let reported := ((s.recordFrame f m).emit (.frameOk f)).emit (.msg m)
  have hview : reported.publishView = s.publishView :=
    (State.publishView_emit rfl _).trans (State.publishView_emit rfl _)
  rcases reported.route_cases m with e | ⟨hmode, e⟩ | ⟨hmode, r, rfl, _⟩
  · exact .inl ((congrArg State.publishView e).trans hview)
  · exact .inl ((congrArg State.publishView e).trans ((State.publishView_seqOnMsg hmode m).trans hview))
  · exact .inr ⟨r, State.publishes_acceptFrame (s := s) hmode f r⟩

/-! ### The events -/

theorem State.framerByte_published {b : Byte} (h : s.framerByte b = .next t) :
    t.publishView = s.publishView ∨ ∃ f r, s.Publishes t f r := by
  rcases s.framerByte_effect h with e | e | ⟨_, f, m, rfl⟩ | ⟨_, rfl⟩
  · rw [e]; exact .inl rfl
  · rw [e]; exact .inl rfl
  · exact (s.acceptFrame_published f m).imp_right fun hr => ⟨f, hr⟩
  · exact .inl (s.publishView_rejectFrame b)

theorem execRxError_publishView (h : execRxError s = .next t) : t.publishView = s.publishView := by
  rcases execRxError_cases h with ⟨_, rfl⟩ | ⟨_, rfl⟩
  · rw [State.publishView_stopStream, State.publishView_transportFailed]
  · exact s.publishView_transportFailed

theorem execTick_publishView (h : execTick s = .next t) : t.publishView = s.publishView := by
  rcases execTick_cases h with ⟨_, rfl⟩ | ⟨_, _, rfl⟩ | ⟨_, _, rfl⟩ | ⟨_, _, rfl⟩ | ⟨_, _, rfl⟩
  · rfl
  · rfl
  · exact State.publishView_stepFailed { s with seq.wait := s.seq.wait + 1 } _
  · rfl
  · exact State.publishView_stopStream { s with stream.rxIdle := s.stream.rxIdle + 1 } _

theorem execCancel_publishView (h : execCancel s = .next t) : t.publishView = s.publishView := by
  rcases execCancel_cases h with ⟨_, rfl⟩ | ⟨_, rfl⟩ | ⟨_, rfl⟩
  · rfl
  · exact State.publishView_emit rfl (State.raise .cancelled { s with seq.state := .cancelled, mode := .idle })
  · exact s.publishView_stopStream _

/-- All that an event word does to what is published. -/
theorem exec_word_published {w : U16} (h : exec (decodeWord w) s = .next t) :
    (decodeWord w = .reset ∧ execReset s = .next t) ∨ t.publishView = s.publishView ∨
    ∃ f r, s.Publishes t f r := by
  rcases exec_word_cases h with ⟨b, _, hb⟩ | ⟨w', _, _, rfl⟩ | ⟨_, he⟩ | ⟨_, he⟩ | ⟨p, v, _, _, rfl⟩ |
    ⟨_, _, _, rfl⟩ | ⟨_, he⟩ | hreset
  · rcases State.framerByte_published hb with e | ⟨f, r, hpub⟩ -- RX_BYTE
    · exact .inr (.inl (e.trans s.publishView_noteByte))
    · exact .inr (.inr ⟨f, r, hpub.of_noteByte⟩)
  · exact .inr (.inl (s.publishView_refuse w')) -- a refused word
  · exact .inr (.inl (execRxError_publishView he)) -- RX_ERROR
  · exact .inr (.inl (execTick_publishView he)) -- TICK
  · exact .inr (.inl (by simp [State.publishView, OutEvent.isFixPublish])) -- START_SEQ
  · exact .inr (.inl (by simp [State.publishView, OutEvent.isFixPublish])) -- START_STREAM
  · exact .inr (.inl (execCancel_publishView he)) -- CANCEL
  · exact .inl hreset -- RESET

/-- Only a fix frame of full length decodes to a fix record (42_codec_decode.md R140, R143). -/
theorem decodePayload_eq_fixRecord {par : Params} {c i : Byte} {p : List Byte} {r : FixRecord}
    (h : decodePayload par c i p = .fixRecord r) : c = 0x01 ∧ i = 0x07 ∧ 92 ≤ p.length ∧ r = decodeFix p := by
  unfold decodePayload at h
  dsimp only at h
  split_ifs at h with _ _ hfix
  obtain ⟨hcls, hid, hlen⟩ := hfix
  cases h
  exact ⟨hcls, hid, hlen, rfl⟩

/-- Settles O51: an event other than RESET leaves the published pair alone or publishes (`exec_word_published`), and
what it then publishes is the record of the last frame, which by the invariant validates and decodes to it
(`State.Inv.exec_word`). -/
theorem onlyPublishWritesOutput : Obligations.OnlyPublishWritesOutput := by
  unfold Obligations.OnlyPublishWritesOutput
  intro w s t h hw ht
  rcases exec_word_published ht with ⟨hreset, _⟩ | hview | ⟨f, r, hpub⟩
  · exact absurd (decodeWord_eq_reset_iff.1 hreset) hw
  · exact .inl ⟨congrArg PublishView.fixOut hview, congrArg PublishView.fixSeq hview,
      congrArg PublishView.count hview⟩
  · obtain ⟨hvalid, _, hmsg⟩ := (h.exec_word ht).record.valid f hpub.lastFrame
    obtain ⟨hcls, hid, hlen, hr⟩ := decodePayload_eq_fixRecord (Option.some.inj (hmsg.symm.trans hpub.lastMsg))
    exact .inr ⟨hpub.mode, r, f, hpub.fixOut, hpub.fixSeq, hpub.lastFrame, hvalid, hcls, hid, hlen, hr, hpub.out⟩

/-! ### The two phases -/

/-- No event of a startup run leads into STREAM (R252). -/
theorem RunView.Step.mode_ne_stream {r r' : RunView} {i : Instr} (h : r.Step i r') (hmode : r.mode = .startup) :
    r'.mode ≠ .stream := by
  cases h with
  | waits _ h | counts _ h => rw [h]; simp [hmode]
  | sends h => rw [h.mode]; nofun
  | ends h => rw [h.mode]; nofun
  | reset _ h => rw [h]; nofun

/-- An event from STREAM or into it is none of a startup run (R252). -/
theorem mode_ne_startup_of_stream {w : U16} (h : exec (decodeWord w) s = .next t)
    (hstream : s.mode = .stream ∨ t.mode = .stream) : s.mode ≠ .startup := by
  intro hmode
  rcases hstream with hs | ht
  · cases hmode.symm.trans hs
  · exact (exec_word_step hmode h).mode_ne_stream hmode ht

/-- START_SEQ is refused, or it leads from outside both phases into STARTUP (44_sequencer.md R213). -/
theorem exec_startSeq_cases {p : Preset} {v : Bool} (h : exec (.startSeq p v) s = .next t) :
    (∃ w, t = s.refuse w) ∨ ((s.mode = .idle ∨ s.mode = .stopped) ∧ t.mode = .startup) := by
  cases hlegal : s.legal (.startSeq p v) with
  | false =>
    obtain ⟨w, _, e⟩ := exec_of_not_legal hlegal
    cases e.symm.trans h
    exact .inl ⟨w, rfl⟩
  | true =>
    have hmode : s.mode = .idle ∨ s.mode = .stopped := by simpa [State.legal] using hlegal
    cases (exec_startSeq_of_mode hmode p v).symm.trans h
    exact .inr ⟨hmode, rfl⟩

/-- An event from STREAM or into it sends nothing and begins no startup run (R213, R229). -/
theorem exec_word_rests_of_stream {w : U16} (h : exec (decodeWord w) s = .next t)
    (hstream : s.mode = .stream ∨ t.mode = .stream) : s.runView.Rests t.runView := by
  have hstartup : s.mode ≠ .startup := mode_ne_startup_of_stream h hstream
  by_cases hstart : ∃ p v, decodeWord w = .startSeq p v
  · obtain ⟨p, v, hi⟩ := hstart
    rcases exec_startSeq_cases (hi ▸ h) with ⟨w', rfl⟩ | ⟨hmode, ht⟩
    · exact .of_eq hstartup (s.runView_refuse w')
    · rcases hstream with hs | ht'
      · rcases hmode with e | e <;> cases hs.symm.trans e
      · cases ht.symm.trans ht'
  · exact exec_word_rests hstartup (fun p v hi => hstart ⟨p, v, hi⟩) h

/-- An event outside STREAM publishes nothing (R250). -/
theorem countP_isFixPublish_of_not_stream {w : U16} (h : exec (decodeWord w) s = .next t) (hmode : s.mode ≠ .stream) :
    t.out.countP OutEvent.isFixPublish = s.out.countP OutEvent.isFixPublish := by
  rcases exec_word_published h with ⟨_, hreset⟩ | hview | ⟨f, r, hpub⟩
  · cases hreset
    rfl
  · exact congrArg PublishView.count hview
  · exact absurd hpub.mode hmode

/-- Settles O52: an event from STREAM or into it sends nothing and leads to no startup run
(`exec_word_rests_of_stream`), one outside STREAM publishes nothing (`countP_isFixPublish_of_not_stream`), and none of a
startup run leads into STREAM (`RunView.Step.mode_ne_stream`). -/
theorem phasesNeverOverlap : Obligations.PhasesNeverOverlap := by
  unfold Obligations.PhasesNeverOverlap
  intro w s t h
  have hleaves : s.mode = .stream → t.mode ≠ .startup := fun hs => (exec_word_rests_of_stream h (.inl hs)).mode
  refine ⟨fun hstream => (exec_word_rests_of_stream h hstream).sent, fun hstartup => ?published, hleaves,
    fun hs => (exec_word_step hs h).mode_ne_stream hs⟩
  case published =>
    refine countP_isFixPublish_of_not_stream h fun hs => ?_
    rcases hstartup with hs' | ht
    · cases hs.symm.trans hs'
    · exact hleaves hs ht

end Sys2Proof.Machine
end

section
/-! PROOF. Legality and the absence of traps (family 60_exceptions.md, R277 to R281; 70_reset_and_hazards.md R305). An
event that is not legal is refused with its own word. What a refusal leaves behind is read from two registers, its
`RefusalView`, which a legal event other than RESET leaves alone. -/

namespace Sys2Proof.Machine

variable {s t : State}

/-! ### What a refusal is read from -/

/-- The count of refused events (10_state.md R43), and bit 9 of `err_sticky` (R45). -/
structure RefusalView where
  count : U32
  raised : Bool

/-- The view of a state. -/
def State.refusalView (s : State) : RefusalView where
  count := s.cnt.illegal
  raised := s.sticky .illegalEvent

/-- No other cause has the code 9 (R270). -/
theorem Cause.eq_illegalEvent_of_code {c : Cause} (h : Cause.illegalEvent.code = c.code) : .illegalEvent = c := by
  cases c with
  | illegalEvent => rfl
  | _ => exact absurd h (by decide)

/-- Causes other than IllegalEvent leave its bit as it is. -/
theorem getLsbD_raiseAll_of_not_mem {cs : List Cause} (h : .illegalEvent ∉ cs) (v : U16) :
    (raiseAll cs v).getLsbD Cause.illegalEvent.code = v.getLsbD Cause.illegalEvent.code := by
  induction cs generalizing v with
  | nil => rfl
  | cons c cs ih =>
    obtain ⟨hc, hcs⟩ := not_or.1 (mt List.mem_cons.2 h)
    have hbit : c.bit.getLsbD Cause.illegalEvent.code = false :=
      (c.getLsbD_bit _).trans (decide_eq_false fun hcode => hc (Cause.eq_illegalEvent_of_code hcode))
    calc (raiseAll cs (v ||| c.bit)).getLsbD Cause.illegalEvent.code
      _ = (v ||| c.bit).getLsbD Cause.illegalEvent.code := ih hcs _
      _ = v.getLsbD Cause.illegalEvent.code := by rw [BitVec.getLsbD_or, hbit, Bool.or_false]

/-- Causes other than IllegalEvent are no part of the view. -/
theorem State.refusalView_of_raiseAll (cs : List Cause) (hcs : Cause.illegalEvent ∉ cs)
    (hcount : t.cnt.illegal = s.cnt.illegal) (hraised : t.errSticky = raiseAll cs s.errSticky) :
    t.refusalView = s.refusalView := by
  simp only [State.refusalView, State.sticky, hcount, hraised, getLsbD_raiseAll_of_not_mem hcs]

/-- Nothing is counted or raised. -/
theorem State.refusalView_congr (hcount : t.cnt.illegal = s.cnt.illegal) (hsticky : t.errSticky = s.errSticky) :
    t.refusalView = s.refusalView :=
  State.refusalView_of_raiseAll [] List.not_mem_nil hcount hsticky

/-! ### The operations -/

theorem State.refusalView_noteByte (s : State) : s.noteByte.refusalView = s.refusalView :=
  State.refusalView_congr (congrArg Counters.illegal s.noteByte_cnt) s.noteByte_errSticky

theorem State.refusalView_stopStream (s : State) (r : StopReason) :
    (s.stopStream r).refusalView = s.refusalView :=
  State.refusalView_of_raiseAll [r.cause] (by cases r <;> decide) rfl rfl

/-- A failed step raises its reason, and the end of its run (44_sequencer.md R220, R222). -/
theorem State.refusalView_stepFailed (s : State) (r : FailReason) : (s.stepFailed r).refusalView = s.refusalView := by
  rcases s.stepFailed_cases r with ⟨_, e⟩ | ⟨_, e⟩ <;> rw [e]
  · exact State.refusalView_of_raiseAll [r.cause] (by cases r <;> decide) rfl rfl
  · exact State.refusalView_of_raiseAll [r.cause, .configurationFailed] (by cases r <;> decide) rfl rfl

theorem State.refusalView_transportFailed (s : State) : s.transportFailed.refusalView = s.refusalView := by
  unfold State.transportFailed State.abortFrame
  split
  · exact State.refusalView_of_raiseAll [.transportError] (by decide) rfl rfl
  · exact State.refusalView_of_raiseAll [.framingAbort, .transportError] (by decide) rfl rfl

theorem State.refusalView_seqOnMsg (s : State) (m : DecodedMessage) :
    (s.seqOnMsg m).refusalView = s.refusalView := by
  rcases s.seqOnMsg_cases m with e | ⟨_, _, _, e⟩ | ⟨_, _, _, e⟩ | ⟨_, _, _, e⟩ | ⟨_, _, _, _, _, e⟩ <;> rw [e]
  · exact State.refusalView_congr (congrArg Counters.illegal s.stepOk_cnt) s.stepOk_errSticky
  · exact s.refusalView_stepFailed _
  · rfl
  · rfl

theorem State.refusalView_acceptFrame (s : State) (f : RawFrame) (m : DecodedMessage) :
    (s.acceptFrame f m).refusalView = s.refusalView := by
  let reported := ((s.recordFrame f m).emit (.frameOk f)).emit (.msg m)
  change (reported.route m).refusalView = reported.refusalView
  rcases reported.route_cases m with e | ⟨_, e⟩ | ⟨_, _, _, e⟩ <;> rw [e]
  · exact reported.refusalView_seqOnMsg m
  · rfl

/-! ### The events -/

theorem State.refusalView_framerByte {b : Byte} (h : s.framerByte b = .next t) : t.refusalView = s.refusalView := by
  rcases s.framerByte_effect h with e | e | ⟨_, f, m, rfl⟩ | ⟨_, rfl⟩
  · rw [e]; rfl
  · rw [e]; exact State.refusalView_of_raiseAll [.framingLength] (by decide) rfl rfl
  · exact s.refusalView_acceptFrame f m
  · exact State.refusalView_of_raiseAll [.checksum] (by decide) rfl rfl

theorem execRxError_refusalView (h : execRxError s = .next t) : t.refusalView = s.refusalView := by
  rcases execRxError_cases h with ⟨_, rfl⟩ | ⟨_, rfl⟩
  · exact (s.transportFailed.refusalView_stopStream _).trans s.refusalView_transportFailed
  · exact s.refusalView_transportFailed

theorem execTick_refusalView (h : execTick s = .next t) : t.refusalView = s.refusalView := by
  rcases execTick_cases h with ⟨_, rfl⟩ | ⟨_, _, rfl⟩ | ⟨_, _, rfl⟩ | ⟨_, _, rfl⟩ | ⟨_, _, rfl⟩
  · rfl
  · rfl
  · exact State.refusalView_stepFailed { s with seq.wait := s.seq.wait + 1 } _
  · rfl
  · exact State.refusalView_stopStream { s with stream.rxIdle := s.stream.rxIdle + 1 } _

theorem execCancel_refusalView (h : execCancel s = .next t) : t.refusalView = s.refusalView := by
  rcases execCancel_cases h with ⟨_, rfl⟩ | ⟨_, rfl⟩ | ⟨_, rfl⟩
  · rfl
  · exact State.refusalView_of_raiseAll [.cancelled] (by decide) rfl rfl
  · exact s.refusalView_stopStream _

/-- A legal event other than RESET refuses nothing (R278, R279). -/
theorem exec_word_refusalView {w : U16} (hlegal : s.legal (decodeWord w) = true) (hw : decodeWord w ≠ .reset)
    (h : exec (decodeWord w) s = .next t) : t.refusalView = s.refusalView := by
  rcases exec_word_cases h with ⟨b, _, hb⟩ | ⟨_, hrefused, _⟩ | ⟨_, he⟩ | ⟨_, he⟩ | ⟨_, _, _, _, rfl⟩ |
    ⟨_, _, _, rfl⟩ | ⟨_, he⟩ | ⟨hreset, _⟩
  · exact (State.refusalView_framerByte hb).trans s.refusalView_noteByte -- RX_BYTE
  · cases hlegal.symm.trans hrefused -- a refused word
  · exact execRxError_refusalView he -- RX_ERROR
  · exact execTick_refusalView he -- TICK
  · rfl -- START_SEQ
  · rfl -- START_STREAM
  · exact execCancel_refusalView he -- CANCEL
  · exact absurd hreset hw -- RESET

/-! ### The statements -/

/-- A word that is not legal is refused, and the refusal reports that word: the one its instruction is encoded as is
the one it was decoded from (R278). -/
theorem exec_word_of_not_legal {w : U16} (h : s.legal (decodeWord w) = false) :
    exec (decodeWord w) s = .next (s.refuse w) := by
  obtain ⟨w', hw', e⟩ := exec_of_not_legal h
  cases hw'.symm.trans (encodeDecodeWord s.par w)
  exact e

/-- Settles O8: an event that is not legal is refused (`exec_word_of_not_legal`), a legal one leaves alone what a
refusal is read from (`exec_word_refusalView`), and where nothing runs TICK and CANCEL change nothing (`tickEffect`,
`cancelEffect`). -/
theorem legalityTable : Obligations.LegalityTable := by
  unfold Obligations.LegalityTable
  intro w s t
  refine ⟨fun hrefused => exec_word_of_not_legal hrefused, fun hlegal hw ht => ?legal, fun hmode => ?noEffect⟩
  case legal =>
    have hview := exec_word_refusalView hlegal (fun hreset => hw (decodeWord_eq_reset_iff.1 hreset)) ht
    exact ⟨congrArg RefusalView.count hview, congrArg RefusalView.raised hview⟩
  case noEffect =>
    obtain ⟨htick, _⟩ := tickEffect s
    obtain ⟨hcancel, _⟩ := cancelEffect s
    exact ⟨htick hmode, hcancel hmode⟩

/-- Settles O58: with no word delivered the block waits, and a delivered word has a next state
(`State.Inv.exists_next_word`), since taking it from the inbox keeps the invariant. -/
theorem neverStops : Obligations.NeverStops := by
  unfold Obligations.NeverStops
  intro s h
  cases hbox : s.inbox with
  | nil => exact ⟨s, step_nil hbox⟩
  | cons w rest =>
    rw [step_cons hbox]
    exact (h.setCntInboxOut s.cnt rest s.out).exists_next_word w

end Sys2Proof.Machine
end

section
/-! PROOF. Reset and the parameters (family 70_reset_and_hazards.md, R300, R301, R315). The next state of RESET is written
out once, and power-on has the same registers. No event writes a parameter: each operation's own law says so, event by
event. -/

namespace Sys2Proof.Machine

variable {s t : State}

/-! ### RESET -/

/-- What RESET leaves: the registers of power-on, with the parameters, the words delivered and the output emitted as they
were, and the buffer drawn anew (R300; entries 2, 4, 5 and 6). -/
def State.afterReset (s : State) : State :=
  { State.reset with par := s.par, draws := s.draws + 1, inbox := s.inbox, out := s.out }

theorem exec_reset (s : State) : exec .reset s = .next s.afterReset := rfl

/-- Settles O47: the next state is `State.afterReset`, whose registers are those of power-on, each the value of R300's
table. -/
theorem resetEffect : Obligations.ResetEffect := by
  unfold Obligations.ResetEffect
  intro s
  refine ⟨s.afterReset, exec_reset s, ?framer, ?lastFrame, ?lastMsg, ?mode, ?seq, ?stream, ?cnt, ?errSticky, ?par,
    ?inbox, ?out⟩
  all_goals rfl

/-- Settles O48: the next state of RESET has the values of R300's table (`resetEffect`), and so has power-on. -/
theorem powerOnIsReset : Obligations.PowerOnIsReset := by
  unfold Obligations.PowerOnIsReset
  intro s t h
  obtain ⟨t', ht', hframer, hlastFrame, hlastMsg, hmode, hseq, hstream, hcnt, hsticky, _⟩ := resetEffect s
  cases ht'.symm.trans h
  have hpowerOn : State.reset.framer = { t.framer with fPay := State.reset.framer.fPay } := by
    rw [hframer]
    rfl
  exact ⟨hpowerOn, hlastFrame.symm, hlastMsg.symm, hmode.symm, hseq.symm, hstream.symm, hcnt.symm, hsticky.symm⟩

/-- Settles O56: the parameters of this hardware are legal (`Params.hardware_wf`), and under legal parameters the reset
registers meet the invariant (`State.inv_resetRegisters`). -/
theorem invHoldsAtReset : Obligations.InvHoldsAtReset := by
  unfold Obligations.InvHoldsAtReset
  exact State.inv_resetRegisters Params.hardware_wf State.reset.draws State.reset.inbox State.reset.out

/-! ### The parameters -/

theorem State.framerByte_par {b : Byte} (h : s.framerByte b = .next t) : t.par = s.par := by
  rcases s.framerByte_effect h with e | e | ⟨_, f, m, rfl⟩ | ⟨_, rfl⟩
  · rw [e]
  · rw [e]
  · exact s.acceptFrame_par f m
  · exact s.rejectFrame_par b

theorem execRxError_par (h : execRxError s = .next t) : t.par = s.par := by
  rcases execRxError_cases h with ⟨_, rfl⟩ | ⟨_, rfl⟩
  · rw [State.stopStream_par, State.transportFailed_par]
  · exact s.transportFailed_par

theorem execTick_par (h : execTick s = .next t) : t.par = s.par := by
  rcases execTick_cases h with ⟨_, rfl⟩ | ⟨_, _, rfl⟩ | ⟨_, _, rfl⟩ | ⟨_, _, rfl⟩ | ⟨_, _, rfl⟩
  · rfl
  · rfl
  · rw [State.stepFailed_par]
  · rfl
  · rw [State.stopStream_par]

theorem execCancel_par (h : execCancel s = .next t) : t.par = s.par := by
  rcases execCancel_cases h with ⟨_, rfl⟩ | ⟨_, rfl⟩ | ⟨_, rfl⟩
  · rfl
  · exact s.cancelSequence_par
  · exact s.stopStream_par _

theorem exec_word_par {w : U16} (h : exec (decodeWord w) s = .next t) : t.par = s.par := by
  rcases exec_word_cases h with ⟨b, _, hb⟩ | ⟨w', _, _, rfl⟩ | ⟨_, he⟩ | ⟨_, he⟩ | ⟨p, v, _, _, rfl⟩ | ⟨_, _, _, rfl⟩ |
    ⟨_, he⟩ | ⟨_, he⟩
  · exact (State.framerByte_par hb).trans s.noteByte_par -- RX_BYTE
  · exact s.refuse_par w' -- a refused word
  · exact execRxError_par he -- RX_ERROR
  · exact execTick_par he -- TICK
  · exact s.startSequence_par p v -- START_SEQ
  · exact s.startStream_par -- START_STREAM
  · exact execCancel_par he -- CANCEL
  · cases (exec_reset s).symm.trans he -- RESET
    rfl

/-- Settles O54: an event word keeps the parameters (`exec_word_par`), and a wire message does what the framer or the
sending of a command does. -/
theorem parametersFixed : Obligations.ParametersFixed := by
  unfold Obligations.ParametersFixed
  intro i s t h
  rcases exec_cases h with ⟨w, rfl⟩ | ⟨c, id, p, _, hm⟩ | ⟨c, id, len, _, rfl⟩ | ⟨c, _, rfl⟩ | ⟨w, _, rfl⟩
  · exact exec_word_par h
  · obtain ⟨_, rfl⟩ := State.receiveFrame_cases hm
    rw [State.acceptFrame_par, State.loadFrame_par, State.noteByte_par]
  · rw [State.framerByte_par (State.framerByte_loadEnvelope ..), State.loadEnvelope_par, State.noteByte_par]
  · exact s.transmit_par c
  · exact s.refuse_par w

end Sys2Proof.Machine
end
